-- ==== Sys2Proof/Word.lean ====
section
/-!
DEFINITION. The word types of the part: what the manual treats as bits. Every measured or computed quantity of the
manual is an integer in a fixed unit (R1) and is held as an `Int`; counts and indexes are `Nat`.
-/

namespace Sys2Proof

/-- One byte of a link frame (section 11.6). -/
abbrev Byte := BitVec 8

/-- One entry of the table store: a number from 0 to 65,535 (R153). -/
abbrev Entry := BitVec 16

/-- A cycle count: a 32-bit number that wraps (R2). -/
abbrev Cycle := BitVec 32

/-- A set of the four permissive lines PL0 to PL3, bit `i` for PL`i` (R124). -/
abbrev Lines := BitVec 4

end Sys2Proof
end

