-- ==== Sys2Proof/Syntax.lean ====
section
/-!
DEFINITION. The commands of the block: one constructor of `Instr` for each row of spec/opcode_table.json, with the
row's operands. `Req` is a request as the link controller hands it out (section 11.6, request payloads).
-/

namespace Sys2Proof

/-- The head status of a sample word (R17). -/
inductive HeadStatus where
  | ok
  | overRange
  | fault
  deriving DecidableEq, Repr

/-- Four consecutive entries: one unit of a slot (R153). -/
structure Quad where
  e0 : Entry
  e1 : Entry
  e2 : Entry
  e3 : Entry
  deriving DecidableEq, Repr

/-- The payload of TRACE SETUP, field by field (R172, section 11.6). -/
structure TraceParams where
  channel : Byte
  quantity : Byte
  index : Byte
  base : BitVec 16
  length : BitVec 16
  mode : Byte
  block : BitVec 16
  post : BitVec 16
  decimation : Byte
  trigger : Byte
  triggerStand : Byte
  deriving DecidableEq, Repr

/-- A request as it is handed to its owning unit, its payload read into fields (section 11.6). The last two constructors
are the two answers of the link controller itself (R182). -/
inductive Req where
  | ident
  | configGet (pairs : List (Byte × Byte))
  | configSet (items : List (Byte × Byte × BitVec 32))
  | configSave
  | syncSelect (source : Byte)
  | standArm (stand : Byte)
  | standDisarm (stand : Byte)
  | statusRead (group stand : Byte)
  | trackRead (start : BitVec 16) (count : Byte)
  | scheduleStage (slot : Byte) (rep : Option Byte)
  | scheduleUnstage
  | tuneSet (stand : Byte) (items : List (Byte × BitVec 32))
  | tuneCancel (stand : Byte)
  | monitorReset (stand : Byte)
  | trip (stand : Byte)
  | tripClear (stands : Byte)
  | tripListRead (start count : Byte)
  | zeroCal (stand : Byte) (kiss rate : BitVec 32)
  | zeroCalAbort (stand : Byte)
  | calSave
  | storeErase (slot : Byte)
  | storeWrite (slot : Byte) (data : Quad) (unit : Option Byte)
  | storeClose (slot : Byte)
  | storeRead (slot first count : Byte)
  | storeStatus (first : Byte)
  | traceSetup (params : TraceParams)
  | traceArm (channel : Byte)
  | traceTrigger (channel : Byte)
  | traceStop (channel : Byte)
  | traceRead (channel : Byte) (offset : BitVec 16) (count : Byte)
  | subscribe (exponent stands : Byte)
  | restart
  | unknownKind (kind : Byte)
  | badLength (kind : Byte)
  deriving DecidableEq, Repr

/-- The commands of the block, one constructor per row of spec/opcode_table.json. Times are absolute microsecond counts;
`es` is the level of each emergency-stop pin at the strobe (bit `i` high when ES`i` is high); `read` lists the entries
of the slot that read otherwise than programmed at a completion, each with what it reads. -/
inductive Instr where
  | powerOn (es : BitVec 4) (straps : BitVec 2)
  | resetInput (es : BitVec 4) (straps : BitVec 2)
  | restartReset (es : BitVec 4)
  | internalReferenceStrobe (es : BitVec 4)
  | millSyncEdge (time : Nat) (es : BitVec 4)
  | holdoverStrobe (es : BitVec 4)
  | sampleWord (line : Nat) (raw : BitVec 24) (head : HeadStatus) (checkOk : Bool)
  | sampleDeadline
  | trackerUpdate
  | loadChangeJudged (stand : Nat)
  | storeEraseDone (read : List (Nat × Entry))
  | storeWriteDone (read : List (Nat × Entry))
  | storeCloseDone (read : List (Nat × Entry))
  | saveStepDone (read : List (Nat × Entry))
  | frameReceived (bytes : List Byte)
  | interByteTimeout
  | unknownKindRequest (tag kind : Byte)
  | transmitLineFree
  | ident (tag : Byte)
  | configGet (tag : Byte) (pairs : List (Byte × Byte))
  | configSet (tag : Byte) (items : List (Byte × Byte × BitVec 32))
  | configSave (tag : Byte)
  | syncSelect (tag source : Byte)
  | standArm (tag stand : Byte)
  | standDisarm (tag stand : Byte)
  | statusRead (tag group stand : Byte)
  | trackRead (tag : Byte) (start : BitVec 16) (count : Byte)
  | scheduleStage (tag slot : Byte) (rep : Option Byte)
  | scheduleUnstage (tag : Byte)
  | tuneSet (tag stand : Byte) (items : List (Byte × BitVec 32))
  | tuneCancel (tag stand : Byte)
  | monitorReset (tag stand : Byte)
  | trip (tag stand : Byte)
  | tripClear (tag stands : Byte)
  | tripListRead (tag start count : Byte)
  | zeroCal (tag stand : Byte) (kiss rate : BitVec 32)
  | zeroCalAbort (tag stand : Byte)
  | calSave (tag : Byte)
  | storeErase (tag slot : Byte)
  | storeWrite (tag slot : Byte) (data : Quad) (unit : Option Byte)
  | storeClose (tag slot : Byte)
  | storeRead (tag slot first count : Byte)
  | storeStatus (tag first : Byte)
  | traceSetup (tag : Byte) (params : TraceParams)
  | traceArm (tag channel : Byte)
  | traceTrigger (tag channel : Byte)
  | traceStop (tag channel : Byte)
  | traceRead (tag channel : Byte) (offset : BitVec 16) (count : Byte)
  | subscribe (tag exponent stands : Byte)
  | restart (tag : Byte)
  deriving DecidableEq, Repr

end Sys2Proof
end

