-- ==== Sys2Proof/Decode.lean ====
section
/-!
DEFINITION. The command that a word of the table's bits spells. spec/opcode_table.json gives no row any bits: a command of
this block is an event or a request, and a request's byte form is read in Machine/Formats.lean. So no word spells a
command (log 34).
-/

namespace Sys2Proof

/-- The command spelled by a word of `nbits` bits: none, since no row of the table has bits (log 34). -/
def decodeTableWord (_nbits _w : Nat) : Option Instr := none

end Sys2Proof
end

