-- ==== Sys2Proof/Config.lean ====
section
/-!
DEFINITION. What an implementation fixes and the values the manual leaves open: constants with no body, so that no proof
can see what they are. The part's own configuration (R189) is state and stands in Machine/State.lean.
-/

namespace Sys2Proof

/-- The silicon revision that IDENT returns; the manual gives it no value (R188). UNVERIFIED, log 14: a constant of the
implementation; nothing is known of it here. Safe. -/
opaque Config.siliconRevision : Nat

/-- What one entry of a slot reads after an operation on it was cut off by a reset. The manual says only that such a slot
is DAMAGED (R160). A free value, log 13: the first argument is the model's counter of free values, the second the entry.
Safe. -/
opaque Config.interruptedEntry : Nat → Nat → Entry

end Sys2Proof
end

