-- ==== Sys2Proof/Machine/Records.lean ====
section
/-!
DEFINITION. The records of the ten units as plain data, and the value each takes at a reset. Quantities are integers in
the manual's units (R1). An optional quantity is absent as `none`; an optional reference is RELEASED as `none`.
-/

namespace Sys2Proof.Machine

/-! ### Fixed numbers of like things -/

/-- One value for each stand number 1 to 7. -/
structure PerStand (α : Type) where
  s1 : α
  s2 : α
  s3 : α
  s4 : α
  s5 : α
  s6 : α
  s7 : α
  deriving DecidableEq, Repr

/-- One value for each of the gauges G1 to G3. -/
structure PerGauge (α : Type) where
  g1 : α
  g2 : α
  g3 : α
  deriving DecidableEq, Repr

/-- One value for each of the lines 0 to 3. -/
structure PerLine (α : Type) where
  l0 : α
  l1 : α
  l2 : α
  l3 : α
  deriving DecidableEq, Repr

/-- One value for each of the zones 1 to 6, those that have a length (R84). -/
structure PerZone (α : Type) where
  z1 : α
  z2 : α
  z3 : α
  z4 : α
  z5 : α
  z6 : α
  deriving DecidableEq, Repr

/-- One value for each of the trace channels 0 to 7. -/
structure PerTrace (α : Type) where
  c0 : α
  c1 : α
  c2 : α
  c3 : α
  c4 : α
  c5 : α
  c6 : α
  c7 : α
  deriving DecidableEq, Repr

/-! ### Configuration (R189) -/

/-- Gain and offset of a channel (R18). -/
structure Scaling where
  gain : Int
  offset : Int
  deriving DecidableEq, Repr

/-- The configuration of one stand: its three channel scalings and the fields of codes 16 to 31 (R189). -/
structure StandConf where
  gapScale : Scaling
  forceScale : Scaling
  speedScale : Scaling
  fOn : Int
  fOff : Int
  tolerance : Int
  followLimit : Int
  nFollow : Int
  runawayLimit : Int
  nRun : Int
  sMin : Int
  sMax : Int
  curveSlot : Int
  escapeGap : Int
  escapeSlew : Int
  mLimit : Int
  tLimit : Int
  speedSlew : Int
  speedRamp : Int
  deriving DecidableEq, Repr

/-- The configuration of one gauge: placement, binding (0 off, 1 on) and divider (R78, R27), and its channel's scaling. -/
structure GaugeConf where
  zone : Int
  dist : Int
  bound : Int
  divider : Int
  scale : Scaling
  deriving DecidableEq, Repr

/-- One row of the trip matrix: action codes NONE 0 to RELEASE 4 and the withdraw set as a sum over PL0 to PL3 (R124). -/
structure Row where
  own : Int
  same : Int
  other : Int
  withdraw : Int
  deriving DecidableEq, Repr

/-- The trip matrix: one row for each source kind but RESET (R124). -/
structure Matrix where
  estop0 : Row
  estop1 : Row
  estop2 : Row
  estop3 : Row
  host : Row
  measurementLost : Row
  headMissed : Row
  unexpectedLoad : Row
  unreadyStand : Row
  loadLost : Row
  runaway : Row
  followError : Row
  syncLost : Row
  barAbandoned : Row
  barOverflow : Row
  deriving DecidableEq, Repr

/-- The configuration as CONFIG GET reads it. A copy that CONFIG SET is working on may hold values out of range. -/
structure Conf where
  standCount : Int
  period : Int
  preferred : Int
  zones : PerZone Int
  release : Int
  wEarly : Int
  wHead : Int
  wTail : Int
  clearance : Int
  gauges : PerGauge GaugeConf
  stands : PerStand StandConf
  matrix : Matrix
  deriving DecidableEq, Repr

/-- The default scaling (R168). -/
def Scaling.default : Scaling := ⟨0, 0⟩

/-- The default configuration of stand `k` (R168). -/
def StandConf.default (k : Nat) : StandConf :=
  { gapScale := .default, forceScale := .default, speedScale := .default
    fOn := 1500, fOff := 800, tolerance := 50, followLimit := 500, nFollow := 10, runawayLimit := 1000, nRun := 20
    sMin := 0, sMax := 60000, curveSlot := (k : Int) - 1, escapeGap := 60000, escapeSlew := 200
    mLimit := 0, tLimit := 0, speedSlew := 50, speedRamp := 1000 }

/-- The default configuration of a gauge: not placed, not bound, divider 0 (R168). DESIGN CHOICE, log 1: the distance of
a gauge not placed is 1 mm, the least of its range. Safe: a gauge not placed is passed by no segment. -/
def GaugeConf.default : GaugeConf := ⟨0, 1, 0, 0, .default⟩

/-- The default row of the emergency stops (R124). -/
def Row.estop : Row := ⟨4, 4, 4, 15⟩

/-- The default row of the kinds that open the stands of the bar (R124). -/
def Row.opening : Row := ⟨3, 3, 0, 1⟩

/-- The default row of SYNC LOST (R124). -/
def Row.warning : Row := ⟨1, 1, 1, 0⟩

/-- The default trip matrix (R124). -/
def Matrix.default : Matrix :=
  { estop0 := .estop, estop1 := .estop, estop2 := .estop, estop3 := .estop
    host := .opening, measurementLost := .opening, headMissed := .opening, unexpectedLoad := .opening
    unreadyStand := .opening, loadLost := .opening, runaway := .opening, followError := .opening
    syncLost := .warning, barAbandoned := .opening, barOverflow := .opening }

/-- The default configuration (R168). -/
def Conf.default : Conf :=
  { standCount := 2, period := 1000, preferred := 0
    zones := ⟨5000, 5000, 5000, 5000, 5000, 5000⟩, release := 10000
    wEarly := 500, wHead := 500, wTail := 500, clearance := 1000
    gauges := ⟨.default, .default, .default⟩
    stands := ⟨.default 1, .default 2, .default 3, .default 4, .default 5, .default 6, .default 7⟩
    matrix := .default }

/-! ### Timebase (section 1.2) -/

/-- The timebase states. -/
inductive TbState where
  | internal
  | qualifying
  | locked
  deriving DecidableEq, Repr

/-- The timebase record, with what R3, R8 to R10, R17, R53 and R63 imply beside it: the microsecond count of the last
strobe, the time of a switching edge that was no strobe, whether an edge was counted since the last strobe, and which
of the cycle's moments (deadline, tracker update, TAILOUT end tests) have passed. -/
structure Timebase where
  state : TbState
  period : Int
  pendingInternal : Bool
  cycle : Cycle
  lastLen : Int
  goodRun : Nat
  qualCount : Nat
  lastEdge : Option Nat
  holdover : Nat
  lastStrobe : Nat
  switchEdge : Option Nat
  edgeSeen : Bool
  deadlineDone : Bool
  updateDone : Bool
  endTests : Bool
  deriving DecidableEq, Repr

/-- The timebase with the strobe that ends a reset, from the configured period and preferred source (R7). -/
def Timebase.reset (period preferred : Int) : Timebase :=
  { state := if preferred = 1 then .qualifying else .internal, period := period, pendingInternal := false, cycle := 0
    lastLen := period, goodRun := 0, qualCount := 0, lastEdge := none, holdover := 0, lastStrobe := 0
    switchEdge := none, edgeSeen := false, deadlineDone := false, updateDone := false, endTests := false }

/-! ### Measurement front end (section 2.1) -/

/-- Channel status. -/
inductive ChanStatus where
  | ok
  | held
  | lost
  deriving DecidableEq, Repr

/-- The word that belongs to the current cycle on a line: raw value and head status (R17). -/
structure SampleWord where
  raw : Int
  head : HeadStatus
  deriving DecidableEq, Repr

/-- A channel record; `lostCond` and `recovery` serve gap, force and speed channels, `lastSample` serves gauges. -/
structure Chan where
  value : Int
  overRange : Bool
  status : ChanStatus
  age : Nat
  misses : Nat
  lostCond : Bool
  recovery : Nat
  lastSample : Option Cycle
  word : Option SampleWord
  deriving DecidableEq, Repr

/-- A channel record after a reset, its lost condition set when `lostCond` (R31). -/
def Chan.reset (lostCond : Bool) : Chan :=
  { value := 0, overRange := false, status := .lost, age := 4, misses := 0, lostCond := lostCond, recovery := 0
    lastSample := none, word := none }

/-- The three channels of a stand. -/
structure StandChans where
  gap : Chan
  force : Chan
  speed : Chan
  deriving DecidableEq, Repr

/-- The channels of a stand after a reset: with the lost condition when the stand is in use (R31, R16). -/
def StandChans.reset (inUse : Bool) : StandChans := ⟨.reset inUse, .reset inUse, .reset inUse⟩

/-- An emergency-stop input's record (R28); `level` is true when the last sample was high. -/
structure Estop where
  active : Bool
  level : Bool
  run : Nat
  deriving DecidableEq, Repr

/-- An emergency-stop record before the strobe of cycle 0 (R28). -/
def Estop.reset : Estop := ⟨true, false, 0⟩

/-! ### Trips (chapter 7) -/

/-- The actions, from weakest to strongest: NONE, WARN, HOLD, OPEN, RELEASE (R124). -/
inductive Action where
  | nothing
  | warn
  | hold
  | opening
  | release
  deriving DecidableEq, Repr

/-- The source kinds, in the order of the matrix rows, and RESET (R122, R189). -/
inductive Kind where
  | estop0
  | estop1
  | estop2
  | estop3
  | host
  | measurementLost
  | headMissed
  | unexpectedLoad
  | unreadyStand
  | loadLost
  | runaway
  | followError
  | syncLost
  | barAbandoned
  | barOverflow
  | reset
  deriving DecidableEq, Repr

/-- A source's identity: kind and index together (R122). -/
structure SourceId where
  kind : Kind
  index : Option Nat
  deriving DecidableEq, Repr

/-- A source as it reaches the trip unit: kind, index and bar; its cycle is the current one (R122). -/
structure Source where
  kind : Kind
  index : Option Nat
  bar : Option Nat
  deriving DecidableEq, Repr

/-- The trip record of a stand (section 7.3). -/
structure StandTrip where
  latch : Bool
  action : Action
  sources : List SourceId
  union : Lines
  deriving DecidableEq, Repr

/-- A stand's trip record while its latch is clear (R138, R141). -/
def StandTrip.clear : StandTrip := ⟨false, .nothing, [], 0⟩

/-- A stand's trip record as RESET leaves it (R141). -/
def StandTrip.reset : StandTrip := ⟨true, .release, [⟨.reset, none⟩], 15⟩

/-- An entry of a record's affected stands: the action given and the action in force after (R133). -/
structure Affected where
  stand : Nat
  given : Action
  after : Action
  deriving DecidableEq, Repr

/-- The named stand's snapshot in a trip record (R133, R134). -/
structure Snap where
  cycle : Cycle
  gap : Int
  force : Int
  eRaw : Option Int
  gapRef : Option Int
  deriving DecidableEq, Repr

/-- A trip record (R133). `waiting` holds the stands listed with a latching action that have not been cleared since, and
`superseded` is set at a RESTART, after which clears no longer set the flag (R135). -/
structure TripRecord where
  number : Nat
  cycle : Cycle
  kind : Kind
  index : Option Nat
  bar : Option Nat
  affected : List Affected
  snap : Option Snap
  cleared : Bool
  waiting : List Nat
  superseded : Bool
  deriving DecidableEq, Repr

/-- The trip unit's list, its next record number, and the HOST sources waiting for the next strobe (R133, R137). -/
structure TripUnit where
  records : List TripRecord
  next : Nat
  host : List (Option Nat)
  deriving DecidableEq, Repr

/-! ### Schedules (R162) -/

/-- Cascade modes (R162). -/
inductive Mode where
  | off
  | single
  | successive
  deriving DecidableEq, Repr

/-- A schedule's record for one stand, in the order of the slot entries (R162, section 11.6). -/
structure StandSched where
  hRef : Int
  sBase : Int
  vSched : Int
  slip : Int
  kp : Int
  kpShift : Int
  ki : Int
  kiShift : Int
  g : Int
  q : Int
  ePos : Int
  eNeg : Int
  ePosSt : Int
  eNegSt : Int
  iLim : Int
  hi : Int
  lo : Int
  rollSlew : Int
  startSlew : Int
  windup : Bool
  mode : Mode
  mg : Int
  nMask : Int
  threadLimit : Int
  deriving DecidableEq, Repr

/-- A schedule image: header and stand records (R162). -/
structure Sched where
  id : Int
  count : Int
  pitch : Int
  stands : PerStand StandSched
  deriving DecidableEq, Repr

/-- A bar copy: a schedule and the slot it came from (R166). -/
structure Image where
  sched : Sched
  slot : Nat
  deriving DecidableEq, Repr

/-- The staged buffer: a schedule, its source slot and its REPEAT choice (section 9.5). -/
structure Staged where
  sched : Sched
  slot : Nat
  rep : Bool
  deriving DecidableEq, Repr

/-- The schedule working memory (section 9.5). -/
structure Images where
  staged : Option Staged
  copy0 : Option Image
  copy1 : Option Image
  deriving DecidableEq, Repr

/-- The working memory after a reset (R160). -/
def Images.reset : Images := ⟨none, none, none⟩

/-! ### Stand record (section 3.1) -/

/-- The stand states, in the record's order. -/
inductive StandState where
  | parked
  | calibrating
  | positioning
  | ready
  | threading
  | rolling
  | tailout
  | tripped
  deriving DecidableEq, Repr

/-- What a stand positions for (R40). -/
inductive Target where
  | bar (id : Nat)
  | staged
  | nothing
  deriving DecidableEq, Repr

/-- The sign of E_raw in the first unmasked THREADING cycle (R51). -/
inductive Sign where
  | nothing
  | negative
  | positive
  deriving DecidableEq, Repr

/-- A run of cycles in error, with whether its source has been presented since the run was last 0 (R55, R56). -/
structure ErrorRun where
  count : Nat
  shown : Bool
  deriving DecidableEq, Repr

/-- The run at 0. -/
def ErrorRun.zero : ErrorRun := ⟨0, false⟩

/-- The stand record, with what R34, R36, R38, R43, R50, R134 and R144 imply beside it. -/
structure StandRec where
  state : StandState
  loaded : Bool
  loadKnown : Bool
  loadOnRun : Nat
  loadOffRun : Nat
  target : Target
  served : Option Nat
  posRun : Nat
  threadCount : Nat
  firstSign : Sign
  nMask : Int
  threadLimit : Int
  followRun : ErrorRun
  runawayRun : ErrorRun
  gapRef : Option Int
  prevGap : Option Int
  sMin : Int
  sMax : Int
  limWait : Bool
  armGap : Option Int
  armSpeed : Option Int
  formed : Option Cycle
  deriving DecidableEq, Repr

/-- A stand record after a reset, in the state given and with the configured limits in force (R34, R45). -/
def StandRec.reset (state : StandState) (c : StandConf) : StandRec :=
  { state := state, loaded := false, loadKnown := false, loadOnRun := 0, loadOffRun := 0, target := .nothing
    served := none, posRun := 0, threadCount := 0, firstSign := .nothing, nMask := 0, threadLimit := 0
    followRun := .zero, runawayRun := .zero, gapRef := none, prevGap := none, sMin := c.sMin, sMax := c.sMax
    limWait := false, armGap := none, armSpeed := none, formed := none }

/-! ### Gauge control (section 5.1) -/

/-- A working curve: its points (force, stretch) in order, and its source slot (R167). -/
structure Curve where
  points : List (Int × Int)
  slot : Nat
  deriving DecidableEq, Repr

/-- The four clamp marks of a cycle (section 5.1). -/
structure Marks where
  errHigh : Bool
  errLow : Bool
  outHigh : Bool
  outLow : Bool
  deriving DecidableEq, Repr

/-- No mark set. -/
def Marks.clear : Marks := ⟨false, false, false, false⟩

/-- A tune override: 13 fields, each of which may be absent (R105). -/
structure Tune where
  kp : Option Int
  kpShift : Option Int
  ki : Option Int
  kiShift : Option Int
  g : Option Int
  q : Option Int
  ePos : Option Int
  eNeg : Option Int
  iLim : Option Int
  hi : Option Int
  lo : Option Int
  rollSlew : Option Int
  mg : Option Int
  deriving DecidableEq, Repr

/-- The override with every field absent (R107). -/
def Tune.empty : Tune :=
  ⟨none, none, none, none, none, none, none, none, none, none, none, none, none⟩

/-- The quantities of a cycle, each a value or absent (section 5.1). -/
structure Quantities where
  hEst : Option Int
  eRaw : Option Int
  e : Option Int
  i : Option Int
  c : Option Int
  dS : Option Int
  sRef : Option Int
  deriving DecidableEq, Repr

/-- Every quantity absent (R85). -/
def Quantities.absent : Quantities := ⟨none, none, none, none, none, none, none⟩

/-- The GCU record; `qPrev` is the cycle before (R86). -/
structure Gcu where
  curve : Option Curve
  zero : Int
  zeroKnown : Bool
  iacc : Int
  monitor : Int
  clamp : Marks
  prevClamp : Marks
  live : Tune
  pendingTune : Option Tune
  q : Quantities
  qPrev : Quantities
  deriving DecidableEq, Repr

/-- A GCU record after a reset, with the zero loaded from the calibration slot (R85, R152). -/
def Gcu.reset (zero : Int) (known : Bool) : Gcu :=
  { curve := none, zero := zero, zeroKnown := known, iacc := 0, monitor := 0, clamp := .clear, prevClamp := .clear
    live := .empty, pendingTune := none, q := .absent, qPrev := .absent }

/-! ### Speed cascade (section 6.1) -/

/-- The SCU record. -/
structure Scu where
  mode : Option Mode
  ratio : Option Int
  trim : Option Int
  trimHigh : Bool
  trimLow : Bool
  demand : Option Int
  slewLimited : Bool
  rangeLimited : Bool
  speedRef : Option Int
  prevSpeed : Option Int
  deriving DecidableEq, Repr

/-- An SCU record after a reset (R110). -/
def Scu.reset : Scu := ⟨none, none, none, false, false, none, false, false, none, none⟩

/-! ### Zero calibration (section 8.1) -/

/-- The phases. -/
inductive Phase where
  | nothing
  | closing
  | holding
  | opening
  deriving DecidableEq, Repr

/-- The results, in the record's order. -/
inductive CalResult where
  | ok
  | noKiss
  | unsteady
  | zeroRange
  | aborted
  | measurementLost
  | tripped
  deriving DecidableEq, Repr

/-- The calibration record. -/
structure Cal where
  phase : Phase
  kissForce : Int
  closeRate : Int
  startGap : Int
  kissRef : Option Int
  holdCount : Nat
  sumS : Int
  sumF : Int
  sAvg : Option Int
  fAvg : Option Int
  oldZero : Int
  candidate : Option Int
  result : CalResult
  prior : Option CalResult
  deriving DecidableEq, Repr

/-- The calibration record after a reset (section 8.1). DESIGN CHOICE, log 1: the parameters, start gap and old zero,
to which the manual gives no value before a calibration, are 0. Unsafe: a STATUS READ shows them. -/
def Cal.reset : Cal :=
  { phase := .nothing, kissForce := 0, closeRate := 0, startGap := 0, kissRef := none, holdCount := 0, sumS := 0
    sumF := 0, sAvg := none, fAvg := none, oldZero := 0, candidate := none, result := .ok, prior := none }

/-! ### The stand as a whole -/

/-- What a stand's quantities of the cycle are made from, fixed at the strobe (R6, R35, R87, R91, R127): the state for
the cycle, the bar served with its fields, the target's fields, the latched action, the calibration phase, the first
references after a release, the curve, the zero and the monitor offset of the cycle before. -/
structure Ctx where
  state : StandState
  served : Option Nat
  sched : Option StandSched
  target : Option StandSched
  action : Action
  phase : Phase
  start : Option Int
  startSpeed : Option Int
  curve : Option Curve
  zero : Int
  monitor : Int
  deriving DecidableEq, Repr

/-- The context of a stand that has just been reset into a state. -/
def Ctx.reset (state : StandState) (action : Action) (zero : Int) : Ctx :=
  { state := state, served := none, sched := none, target := none, action := action, phase := .nothing, start := none
    startSpeed := none, curve := none, zero := zero, monitor := 0 }

/-- All that the units hold for one stand; `lostSrc` is its measurement lost source as last presented (R22). -/
structure Stand where
  chans : StandChans
  lostSrc : Bool
  sc : StandRec
  gcu : Gcu
  scu : Scu
  cal : Cal
  trip : StandTrip
  ctx : Ctx
  deriving DecidableEq, Repr

/-- A configured stand after a reset: TRIPPED with RESET, its channels LOST and its source active (R31, R34, R141). -/
def Stand.reset (c : StandConf) (zero : Int) (known : Bool) : Stand :=
  { chans := .reset true, lostSrc := true, sc := .reset .tripped c, gcu := .reset zero known, scu := .reset
    cal := .reset, trip := .reset, ctx := .reset .tripped .release zero }

/-- The record of a stand number beyond N: it has no record in use and its lines carry RELEASED (R34). DESIGN CHOICE,
log 1: the unused record stands in PARKED. Safe: nothing reads it. -/
def Stand.unused (c : StandConf) : Stand :=
  { chans := .reset false, lostSrc := false, sc := .reset .parked c, gcu := .reset 0 false, scu := .reset
    cal := .reset, trip := .clear, ctx := .reset .parked .nothing 0 }

/-! ### Strip tracker (section 4.1) -/

/-- Segment kinds. -/
inductive SegKind where
  | head
  | body
  | tail
  deriving DecidableEq, Repr

/-- An estimate record (R60). -/
structure Estimate where
  stand : Nat
  thickness : Option Int
  hRef : Int
  startup : Bool
  deriving DecidableEq, Repr

/-- A reading record (section 4.1). -/
structure Reading where
  gauge : Nat
  thickness : Int
  deriving DecidableEq, Repr

/-- A segment of the tracking queue. -/
structure Seg where
  seq : Nat
  bar : Nat
  kind : SegKind
  zone : Nat
  dist : Int
  birth : Cycle
  ests : List Estimate
  reads : List Reading
  deriving DecidableEq, Repr

/-- A bar record (R61). `deferred` says that a BODY birth is waiting for room (R69, log 22). -/
structure Bar where
  id : Nat
  copy : Nat
  slot : Nat
  furthest : Nat
  missed : Option Nat
  tailBorn : Bool
  trackFull : Bool
  deferred : Bool
  deriving DecidableEq, Repr

/-- A load-on or a load-off presented to the tracker and not yet judged (R63). -/
structure LoadChange where
  stand : Nat
  on : Bool
  deriving DecidableEq, Repr

/-- The strip tracker: queue and bar list oldest first (R59, R61, R62, R63). -/
structure Tracker where
  segs : List Seg
  bars : List Bar
  nextSeq : Nat
  nextBar : Nat
  held : List LoadChange
  deriving DecidableEq, Repr

/-- The tracker after a reset (R62). -/
def Tracker.reset : Tracker := ⟨[], [], 0, 1, []⟩

/-! ### Table store (R153) -/

/-- A sparse memory: (address, value) pairs, addresses strictly rising, no pair holding the value an unlisted address
reads as. -/
abbrev Cells (α : Type) := List (Nat × α)

/-- Slot states (R153). -/
inductive SlotState where
  | blank
  | opened
  | valid
  | damaged
  deriving DecidableEq, Repr

/-- A slot's state record (R153): bit `u` of the map marks unit `u` as written. -/
structure SlotRec where
  state : SlotState
  map : BitVec 63
  cursor : Nat
  damage : Bool
  deriving DecidableEq, Repr

/-- The record of an erased slot (R156). -/
def SlotRec.blank : SlotRec := ⟨.blank, 0, 0, false⟩

/-- The operations of R154. -/
inductive OpKind where
  | erase
  | write
  | close
  | calSave
  | configSave
  deriving DecidableEq, Repr

/-- One step of an operation. -/
inductive OpStep where
  | erase
  | write (unit : Nat) (data : Quad)
  | close
  deriving DecidableEq, Repr

/-- The operation in flight: kind, slot, the step that runs and the steps to come (R154, R161). -/
structure StoreOp where
  kind : OpKind
  slot : Nat
  step : OpStep
  rest : List OpStep
  deriving DecidableEq, Repr

/-- The table store: cells at address 256 × slot + entry, slot records, operation, operation mark and fault count. -/
structure Store where
  cells : Cells Entry
  slots : Cells SlotRec
  op : Option StoreOp
  mark : Option Nat
  faults : Nat
  deriving DecidableEq, Repr

/-- A store whose every slot is erased: the store State.reset holds (DESIGN CHOICE, log 1). -/
def Store.erased : Store := ⟨[], [], none, none, 0⟩

/-! ### Trace unit (section 10.1) -/

/-- The quantities a channel can capture, in the order of their codes (R170, section 11.6). -/
inductive TraceQuantity where
  | gap
  | force
  | speed
  | hEst
  | eRaw
  | integral
  | correction
  | clampStatus
  | sRef
  | vRef
  | trim
  | gauge
  | cycleLength
  deriving DecidableEq, Repr

/-- Capture modes. -/
inductive TraceMode where
  | single
  | ring
  | block
  deriving DecidableEq, Repr

/-- What starts a capture, and the kinds of trigger (R177). -/
inductive Trigger where
  | immediate
  | headAt (stand : Nat)
  | tailAt (stand : Nat)
  | tripAny
  | tripAt (stand : Nat)
  | request
  deriving DecidableEq, Repr

/-- Channel states. -/
inductive TraceState where
  | idle
  | armed
  | capturing
  | done
  deriving DecidableEq, Repr

/-- Whether a trace channel's stand has left the configuration since the channel was set up: not; in the cycle in progress, whose
sample is still taken; or in an earlier cycle (R170). -/
inductive Presence where
  | here
  | leaving
  | gone
  deriving DecidableEq, Repr

/-- A trace channel's record; a region of length 0 is no region (R172). `presence` is what R170 implies beside it. -/
structure TraceChan where
  quantity : Option TraceQuantity
  index : Option Nat
  base : Nat
  length : Nat
  mode : TraceMode
  block : Nat
  post : Nat
  decimation : Nat
  trigger : Trigger
  state : TraceState
  armCycle : Option Cycle
  flag : Bool
  firstTrigger : Option Cycle
  lastTrigger : Option Cycle
  blocks : Nat
  wpos : Option Nat
  fill : Nat
  postTaken : Nat
  phase : Cycle
  presence : Presence
  deriving DecidableEq, Repr

/-- A trace channel after a reset (R169). -/
def TraceChan.reset : TraceChan :=
  { quantity := none, index := none, base := 0, length := 0, mode := .single, block := 1, post := 1, decimation := 0
    trigger := .request, state := .idle, armCycle := none, flag := false, firstTrigger := none, lastTrigger := none
    blocks := 0, wpos := none, fill := 0, postTaken := 0, phase := 0, presence := .here }

/-- A trigger received for settlement: its kind, the channel a REQUEST names, and the cycle it is labelled with. -/
structure Labelled where
  trigger : Trigger
  channel : Option Nat
  cycle : Cycle
  deriving DecidableEq, Repr

/-- The trace unit. -/
structure Trace where
  mem : Cells Int
  chans : PerTrace TraceChan
  triggers : List Labelled
  deriving DecidableEq, Repr

/-- The trace unit after a reset (R169). -/
def Trace.reset : Trace :=
  ⟨[], ⟨.reset, .reset, .reset, .reset, .reset, .reset, .reset, .reset⟩, []⟩

/-! ### Link controller (chapter 11) -/

/-- The reply codes (R183). -/
inductive Code where
  | ok
  | clamped
  | busy
  | unknownKind
  | badLength
  | badIndex
  | wrongState
  | inUse
  | notBlank
  | notValid
  | noSchedule
  | sourceActive
  | curveBad
  | overlap
  deriving DecidableEq, Repr

/-- A formed reply (R183): the request's kind byte and tag, the code, the cycle count and the body's 32-bit fields.
`order` is its place in the order of formation. -/
structure Reply where
  kind : Byte
  tag : Byte
  code : Code
  cycle : Cycle
  body : List Int
  order : Nat
  deriving DecidableEq, Repr

/-- The kinds of event report, in the order of their codes 1 to 13 (section 11.6). -/
inductive EventKind where
  | standState
  | headAtStand
  | tailAtStand
  | tailMismatch
  | trackFull
  | threadTimeout
  | trip
  | tripCleared
  | measurement
  | sync
  | storeDone
  | calDone
  | traceDone
  deriving DecidableEq, Repr

/-- The content of a report frame: an event's fields, or the part of a snapshot with its skipped count. -/
inductive ReportBody where
  | event (kind : EventKind) (fields : List Int)
  | snapshot (skipped : Nat) (stands : List (Nat × List Int))
  deriving DecidableEq, Repr

/-- A report frame in the report queue: header cycle count, part number, part count and content (R185). -/
structure Report where
  cycle : Cycle
  part : Nat
  parts : Nat
  body : ReportBody
  deriving DecidableEq, Repr

/-- The frame in transmission: a part of a reply, or a report with the sequence number and flag it carries (R184). -/
inductive Tx where
  | reply (r : Reply) (part : Nat)
  | report (seq : Nat) (lost : Bool) (r : Report)
  deriving DecidableEq, Repr

/-- A subscription: interval exponent and stand set, from a cycle on; `none` is off (R186). -/
structure Subscription where
  exponent : Nat
  stands : List Nat
  deriving DecidableEq, Repr

/-- Where an accepted RESTART stands (R191). -/
inductive RestartPhase where
  | nothing
  | accepted
  | due
  deriving DecidableEq, Repr

/-- The link controller (R181, R182, R184 to R186, R191, R192). -/
structure Link where
  rx : List Byte
  queue : List (Byte × Req)
  slot : Option Reply
  busy : List Reply
  order : Nat
  tx : Option Tx
  reports : List Report
  lostFlag : Bool
  seq : Nat
  skipped : Nat
  sub : Option Subscription
  subNext : Option (Option Subscription)
  discards : Nat
  overruns : Nat
  rate : Nat
  restart : RestartPhase
  deriving DecidableEq, Repr

/-- The link controller after a reset, at the link rate given (R192). -/
def Link.reset (rate : Nat) : Link :=
  { rx := [], queue := [], slot := none, busy := [], order := 0, tx := none, reports := [], lostFlag := false, seq := 0
    skipped := 0, sub := none, subNext := none, discards := 0, overruns := 0, rate := rate, restart := .nothing }

end Sys2Proof.Machine
end

