-- ==== Sys2Proof/Machine/State.lean ====
section
/-!
DEFINITION. The machine's state, its outcomes' reasons, and the state right after reset.
-/

namespace Sys2Proof.Machine

/-- The reasons for a fault. The manual describes no stop of the part: a trip, a failed store operation, a discarded
frame or a refused request is a state, a report or a reply. So nothing raises a fault, and the type has no constructor.
Safe. -/
inductive Fault : Type where
  deriving DecidableEq, Repr

/-- The reasons for a refusal. -/
inductive Refusal where
  /-- The command has no meaning in the model. Raised by no arm of `exec`: every command is modelled. Safe. -/
  | notModelled (mnemonic : String)
  deriving DecidableEq, Repr

/-- All that the spec gives the part, as plain data, with the host's queue of waiting commands first. `lowN`, which R32 implies, is
the least N configured or in force since the cycle began: the stands above it are not of this cycle's train throughout. -/
structure State where
  pending : List Instr
  conf : Conf
  force : Conf
  lowN : Nat
  tb : Timebase
  estops : PerLine Estop
  gauges : PerGauge Chan
  stands : PerStand Stand
  track : Tracker
  trips : TripUnit
  images : Images
  store : Store
  trace : Trace
  link : Link
  fresh : Nat
  deriving DecidableEq, Repr

/-- An emergency-stop record after the strobe of cycle 0 has sampled a low level (R28). -/
def State.resetEstop : Estop := ⟨true, false, 0⟩

/-- A stand of the default configuration after the reset and the strobe of cycle 0: latched by RESET with RELEASE and all
lines, the four active emergency stops joined to its sources (R141, R123). -/
def State.resetStand (k : Nat) : Stand :=
  { Stand.reset (.default k) 0 false with
    trip := ⟨true, .release,
      [⟨.reset, none⟩, ⟨.estop0, some 0⟩, ⟨.estop1, some 1⟩, ⟨.estop2, some 2⟩, ⟨.estop3, some 3⟩], 15⟩ }

/-- The RESET record of cycle 0 (R141). -/
def State.resetRecord : TripRecord :=
  { number := 1, cycle := 0, kind := .reset, index := none, bar := none
    affected := [⟨1, .release, .release⟩, ⟨2, .release, .release⟩], snap := none, cleared := false
    waiting := [1, 2], superseded := false }

/-- The RESET record's TRIP report, the first report queued (R141, R192): the record's fields, absent ones as
−2,147,483,648, and the four line levels, all low. -/
def State.resetReport : Report :=
  { cycle := 0, part := 1, parts := 1
    body := .event .trip
      [1, 0, 15, -2147483648, -2147483648, 2, 1, 4, 4, 2, 4, 4,
       -2147483648, -2147483648, -2147483648, -2147483648, -2147483648, 0, 0, 0, 0, 0] }

/-- The machine right after power-on, in cycle 0: the defaults of R168, since the configuration slot is BLANK, every
configured stand latched by RESET, every channel LOST (R7, R31, R34, R62, R85, R110, R141, R160, R169, R192).
DESIGN CHOICE, log 1: the table store is erased, the link straps and the emergency-stop pins are low. Unsafe. -/
def State.reset : State :=
  { pending := []
    conf := .default
    force := .default
    lowN := 2
    tb := .reset 1000 0
    estops := ⟨resetEstop, resetEstop, resetEstop, resetEstop⟩
    gauges := ⟨.reset false, .reset false, .reset false⟩
    stands := ⟨resetStand 1, resetStand 2, .unused (.default 3), .unused (.default 4), .unused (.default 5),
      .unused (.default 6), .unused (.default 7)⟩
    track := .reset
    trips := ⟨[resetRecord], 2, []⟩
    images := .reset
    store := .erased
    trace := { Trace.reset with
      triggers := [⟨.tripAny, none, 0⟩, ⟨.tripAt 1, none, 0⟩, ⟨.tripAt 2, none, 0⟩] }
    link := { Link.reset 1 with reports := [resetReport] }
    fresh := 0 }

end Sys2Proof.Machine
end

