-- ==== Sys2Proof/Machine/Flags.lean ====
section
/-!
DEFINITION. The shared arithmetic: clamps and slews (R1), the order of the actions (R124), and the encodings of flags and
enumerations as 32-bit fields (section 11.6).
-/

namespace Sys2Proof.Machine

/-- A value clamped to the closed range `lo` to `hi` (R1). -/
def clampTo (lo hi v : Int) : Int := max lo (min hi v)

/-- A count raised by 1 that stops at `top`. -/
def countTo (top n : Nat) : Nat := min top (n + 1)

/-- The value `target` limited to within one `slew` of `prev` (R46, R99, R116). -/
def slewToward (prev target slew : Int) : Int :=
  if prev + slew < target then prev + slew else if target < prev - slew then prev - slew else target

/-- The next of the numbers 1 to 65,535, wrapping to 1 (R61, R133). -/
def nextFromOne (n : Nat) : Nat := if 65535 ≤ n then 1 else n + 1

/-- The next of the numbers 0 to 65,535, wrapping to 0 (R59, R185). -/
def nextFromZero (n : Nat) : Nat := if 65535 ≤ n then 0 else n + 1

/-! ### Actions (R124) -/

/-- The strength of an action, which is also its code: NONE 0 to RELEASE 4 (R124, section 11.6). -/
def Action.rank : Action → Nat
  | .nothing => 0
  | .warn => 1
  | .hold => 2
  | .opening => 3
  | .release => 4

/-- The action of a code of the trip matrix; a code outside 0 to 4 is clamped (R124). -/
def Action.ofCode (c : Int) : Action :=
  if c ≤ 0 then .nothing else if c = 1 then .warn else if c = 2 then .hold else if c = 3 then .opening else .release

/-- HOLD, OPEN and RELEASE latch a stand (R124). -/
def Action.latching (a : Action) : Bool := decide (2 ≤ a.rank)

/-- OPEN and RELEASE call for abandonment (R131). -/
def Action.abandoning (a : Action) : Bool := decide (3 ≤ a.rank)

/-- The stronger of two actions (R125, R126). -/
def Action.stronger (a b : Action) : Action := if a.rank < b.rank then b else a

/-! ### Source kinds (R122, R189) -/

/-- A source kind's number: its matrix row, RESET as 15 (section 11.6). -/
def Kind.code : Kind → Nat
  | .estop0 => 0
  | .estop1 => 1
  | .estop2 => 2
  | .estop3 => 3
  | .host => 4
  | .measurementLost => 5
  | .headMissed => 6
  | .unexpectedLoad => 7
  | .unreadyStand => 8
  | .loadLost => 9
  | .runaway => 10
  | .followError => 11
  | .syncLost => 12
  | .barAbandoned => 13
  | .barOverflow => 14
  | .reset => 15

/-- The line of an emergency-stop kind. -/
def Kind.line : Kind → Option Nat
  | .estop0 => some 0
  | .estop1 => some 1
  | .estop2 => some 2
  | .estop3 => some 3
  | _ => none

/-- The kind of the emergency-stop input on a line. -/
def Kind.ofLine : Nat → Kind
  | 0 => .estop0
  | 1 => .estop1
  | 2 => .estop2
  | _ => .estop3

/-- Emergency stops and measurement lost are of condition type, every other kind of event type (R122). -/
def Kind.condition : Kind → Bool
  | .estop0 | .estop1 | .estop2 | .estop3 | .measurementLost => true
  | _ => false

/-- The stand a source names: its index, unless its index is a line (R122). -/
def Source.stand (src : Source) : Option Nat := if src.kind.line.isSome then none else src.index

/-- A source's identity (R122). -/
def Source.id (src : Source) : SourceId := ⟨src.kind, src.index⟩

/-! ### Fields of 32 bits (section 11.6) -/

/-- The marker of an absent value (R170). -/
def absentMarker : Int := -2147483648

/-- The marker of a RELEASED reference (R170). -/
def releasedMarker : Int := -2147483647

/-- An optional value as a field. -/
def optField (v : Option Int) : Int := v.getD absentMarker

/-- An optional count or index as a field. -/
def natField (v : Option Nat) : Int := optField (v.map Int.ofNat)

/-- A reference as a field. -/
def refField (v : Option Int) : Int := v.getD releasedMarker

/-- A mark as a field. DESIGN CHOICE, log 12: 1 for set, 0 for clear. Unsafe. -/
def boolField (b : Bool) : Int := if b then 1 else 0

/-- A cycle count as a field. -/
def cycleField (c : Cycle) : Int := c.toInt

/-- An optional cycle count as a field. -/
def optCycleField (c : Option Cycle) : Int := optField (c.map cycleField)

/-- A set of stands as the sum of 2^(k−1) over its members (section 11.6). -/
def standSet (ks : List Nat) : Int := (ks.map (fun k => (2 : Int) ^ (k - 1))).sum

/-- The code of a stand state: its place in the record's list (section 11.6). DESIGN CHOICE, log 12: in replies too. Unsafe. -/
def StandState.code : StandState → Int
  | .parked => 0
  | .calibrating => 1
  | .positioning => 2
  | .ready => 3
  | .threading => 4
  | .rolling => 5
  | .tailout => 6
  | .tripped => 7

/-- The code of a timebase state. DESIGN CHOICE, log 12: its place in the list of section 1.2, from 0. Unsafe. -/
def TbState.code : TbState → Int
  | .internal => 0
  | .qualifying => 1
  | .locked => 2

/-- The code of a channel status. DESIGN CHOICE, log 12: its place in the list of section 2.1, from 0. Unsafe. -/
def ChanStatus.code : ChanStatus → Int
  | .ok => 0
  | .held => 1
  | .lost => 2

/-- The code of a first sign. DESIGN CHOICE, log 12: its place in the list of section 3.1, from 0. Unsafe. -/
def Sign.code : Sign → Int
  | .nothing => 0
  | .negative => 1
  | .positive => 2

/-- The code of a calibration phase. DESIGN CHOICE, log 12: its place in the list of section 8.1, from 0. Unsafe. -/
def Phase.code : Phase → Int
  | .nothing => 0
  | .closing => 1
  | .holding => 2
  | .opening => 3

/-- The code of a calibration result. DESIGN CHOICE, log 12: its place in the list of section 8.1, from 0. Unsafe. -/
def CalResult.code : CalResult → Int
  | .ok => 0
  | .noKiss => 1
  | .unsteady => 2
  | .zeroRange => 3
  | .aborted => 4
  | .measurementLost => 5
  | .tripped => 6

/-- The code of a slot state. DESIGN CHOICE, log 12: its place in the list of section 9.1, from 0. Unsafe. -/
def SlotState.code : SlotState → Int
  | .blank => 0
  | .opened => 1
  | .valid => 2
  | .damaged => 3

/-- The code of a store operation. DESIGN CHOICE, log 12: they are numbered in this order. Unsafe. -/
def OpKind.code : OpKind → Int
  | .erase => 0
  | .write => 1
  | .close => 2
  | .calSave => 3
  | .configSave => 4

/-- The code of a cascade mode (R162). -/
def Mode.code : Mode → Int
  | .off => 0
  | .single => 1
  | .successive => 2

/-- The cascade mode of a slot entry; a code above 2 is SUCCESSIVE (R162). -/
def Mode.ofCode (c : Int) : Mode := if c ≤ 0 then .off else if c = 1 then .single else .successive

/-- The code of a trace channel's state. DESIGN CHOICE, log 12: its place in the list of section 10.1, from 0. Unsafe. -/
def TraceState.code : TraceState → Int
  | .idle => 0
  | .armed => 1
  | .capturing => 2
  | .done => 3

/-- The code of a capture mode (section 11.6). -/
def TraceMode.code : TraceMode → Int
  | .single => 0
  | .ring => 1
  | .block => 2

/-- The code of a captured quantity (section 11.6). -/
def TraceQuantity.code : TraceQuantity → Int
  | .gap => 0
  | .force => 1
  | .speed => 2
  | .hEst => 3
  | .eRaw => 4
  | .integral => 5
  | .correction => 6
  | .clampStatus => 7
  | .sRef => 8
  | .vRef => 9
  | .trim => 10
  | .gauge => 11
  | .cycleLength => 12

/-- The code of a trigger kind (section 11.6). -/
def Trigger.code : Trigger → Int
  | .immediate => 0
  | .headAt _ => 1
  | .tailAt _ => 2
  | .tripAny => 3
  | .tripAt _ => 4
  | .request => 5

/-- The stand a trigger kind names. -/
def Trigger.stand : Trigger → Option Nat
  | .headAt k | .tailAt k | .tripAt k => some k
  | _ => none

/-- A reply code's value (R183). -/
def Code.value : Code → Nat
  | .ok => 0
  | .clamped => 1
  | .busy => 2
  | .unknownKind => 3
  | .badLength => 4
  | .badIndex => 5
  | .wrongState => 6
  | .inUse => 7
  | .notBlank => 8
  | .notValid => 9
  | .noSchedule => 10
  | .sourceActive => 11
  | .curveBad => 12
  | .overlap => 13

/-- The code of an event report kind, 1 to 13 (section 11.6). -/
def EventKind.code : EventKind → Nat
  | .standState => 1
  | .headAtStand => 2
  | .tailAtStand => 3
  | .tailMismatch => 4
  | .trackFull => 5
  | .threadTimeout => 6
  | .trip => 7
  | .tripCleared => 8
  | .measurement => 9
  | .sync => 10
  | .storeDone => 11
  | .calDone => 12
  | .traceDone => 13

/-- The clamp status as one number: 1, 2, 4 and 8 for its four marks (R170). -/
def Marks.code (m : Marks) : Int :=
  boolField m.errHigh + 2 * boolField m.errLow + 4 * boolField m.outHigh + 8 * boolField m.outLow

/-- OK, or CLAMPED when a number was clamped (R183). -/
def Code.clampedIf (b : Bool) : Code := if b then .clamped else .ok

end Sys2Proof.Machine
end

