-- ==== Sys2Proof/Machine/Ops.lean ====
section
/-!
DEFINITION. The named operations over the state: access to the records by number, the two sparse memories, the report
queue, the trace triggers, and a stand's change of state.
-/

namespace Sys2Proof.Machine

/-! ### Access by number -/

/-- The value for stand `k`, 1 to 7. -/
def PerStand.get {α : Type} (p : PerStand α) : Nat → α
  | 1 => p.s1
  | 2 => p.s2
  | 3 => p.s3
  | 4 => p.s4
  | 5 => p.s5
  | 6 => p.s6
  | _ => p.s7

/-- The values with that of stand `k` replaced; a number that is no stand replaces nothing. -/
def PerStand.set {α : Type} (p : PerStand α) (k : Nat) (x : α) : PerStand α :=
  match k with
  | 1 => { p with s1 := x }
  | 2 => { p with s2 := x }
  | 3 => { p with s3 := x }
  | 4 => { p with s4 := x }
  | 5 => { p with s5 := x }
  | 6 => { p with s6 := x }
  | 7 => { p with s7 := x }
  | _ => p

/-- A function of the stand number applied to every value. -/
def PerStand.mapIdx {α β : Type} (f : Nat → α → β) (p : PerStand α) : PerStand β :=
  ⟨f 1 p.s1, f 2 p.s2, f 3 p.s3, f 4 p.s4, f 5 p.s5, f 6 p.s6, f 7 p.s7⟩

/-- The values in stand order. -/
def PerStand.toList {α : Type} (p : PerStand α) : List α := [p.s1, p.s2, p.s3, p.s4, p.s5, p.s6, p.s7]

/-- The value for gauge G1, G2 or G3. -/
def PerGauge.get {α : Type} (p : PerGauge α) : Nat → α
  | 1 => p.g1
  | 2 => p.g2
  | _ => p.g3

/-- The values with that of gauge `g` replaced. -/
def PerGauge.set {α : Type} (p : PerGauge α) (g : Nat) (x : α) : PerGauge α :=
  match g with
  | 1 => { p with g1 := x }
  | 2 => { p with g2 := x }
  | 3 => { p with g3 := x }
  | _ => p

/-- A function of the gauge number applied to every value. -/
def PerGauge.mapIdx {α β : Type} (f : Nat → α → β) (p : PerGauge α) : PerGauge β := ⟨f 1 p.g1, f 2 p.g2, f 3 p.g3⟩

/-- The value for line 0 to 3. -/
def PerLine.get {α : Type} (p : PerLine α) : Nat → α
  | 0 => p.l0
  | 1 => p.l1
  | 2 => p.l2
  | _ => p.l3

/-- A function of the line number applied to every value. -/
def PerLine.mapIdx {α β : Type} (f : Nat → α → β) (p : PerLine α) : PerLine β := ⟨f 0 p.l0, f 1 p.l1, f 2 p.l2, f 3 p.l3⟩

/-- The value for zone 1 to 6. -/
def PerZone.get {α : Type} (p : PerZone α) : Nat → α
  | 1 => p.z1
  | 2 => p.z2
  | 3 => p.z3
  | 4 => p.z4
  | 5 => p.z5
  | _ => p.z6

/-- The values with that of zone `k` replaced. -/
def PerZone.set {α : Type} (p : PerZone α) (k : Nat) (x : α) : PerZone α :=
  match k with
  | 1 => { p with z1 := x }
  | 2 => { p with z2 := x }
  | 3 => { p with z3 := x }
  | 4 => { p with z4 := x }
  | 5 => { p with z5 := x }
  | 6 => { p with z6 := x }
  | _ => p

/-- A function applied to every zone's value. -/
def PerZone.map {α β : Type} (f : α → β) (p : PerZone α) : PerZone β := ⟨f p.z1, f p.z2, f p.z3, f p.z4, f p.z5, f p.z6⟩

/-- The value for trace channel 0 to 7. -/
def PerTrace.get {α : Type} (p : PerTrace α) : Nat → α
  | 0 => p.c0
  | 1 => p.c1
  | 2 => p.c2
  | 3 => p.c3
  | 4 => p.c4
  | 5 => p.c5
  | 6 => p.c6
  | _ => p.c7

/-- The values with that of channel `c` replaced. -/
def PerTrace.set {α : Type} (p : PerTrace α) (c : Nat) (x : α) : PerTrace α :=
  match c with
  | 0 => { p with c0 := x }
  | 1 => { p with c1 := x }
  | 2 => { p with c2 := x }
  | 3 => { p with c3 := x }
  | 4 => { p with c4 := x }
  | 5 => { p with c5 := x }
  | 6 => { p with c6 := x }
  | 7 => { p with c7 := x }
  | _ => p

/-- A function applied to every channel's value. -/
def PerTrace.map {α β : Type} (f : α → β) (p : PerTrace α) : PerTrace β :=
  ⟨f p.c0, f p.c1, f p.c2, f p.c3, f p.c4, f p.c5, f p.c6, f p.c7⟩

/-- The configured stand count N as a number (R189). -/
def Conf.n (c : Conf) : Nat := c.standCount.toNat

/-- The stand numbers 1 to `n`, none above 7. -/
def standsTo (n : Nat) : List Nat := [1, 2, 3, 4, 5, 6, 7].filter (fun k => decide (k ≤ n))

/-! ### The sparse memories (R153, R169) -/

/-- What an address reads as: the listed value, or `d`, the value an unlisted address reads as. -/
def Memory.read {α : Type} (d : α) : Cells α → Nat → α
  | [], _ => d
  | (b, v) :: rest, a => if b = a then v else Memory.read d rest a

/-- A memory without an address, and with it when the value is not the one an unlisted address reads as; the addresses
stay in rising order. -/
def Memory.write {α : Type} [DecidableEq α] (d : α) : Cells α → Nat → α → Cells α
  | [], a, x => if x = d then [] else [(a, x)]
  | (b, v) :: rest, a, x =>
    if b = a then (if x = d then rest else (a, x) :: rest)
    else if a < b then (if x = d then (b, v) :: rest else (a, x) :: (b, v) :: rest)
    else (b, v) :: Memory.write d rest a x

/-- Consecutive values written from an address on. -/
def Memory.writeAll {α : Type} [DecidableEq α] (d : α) (m : Cells α) : Nat → List α → Cells α
  | _, [] => m
  | a, x :: xs => Memory.writeAll d (Memory.write d m a x) (a + 1) xs

/-- Consecutive values read from an address on. -/
def Memory.readAll {α : Type} (d : α) (m : Cells α) (a n : Nat) : List α :=
  (List.range n).map (fun i => Memory.read d m (a + i))

/-- Every address is above `a` and the addresses rise. -/
def Memory.risingFrom {α : Type} (a : Nat) : Cells α → Bool
  | [] => true
  | (b, _) :: rest => decide (a < b) && Memory.risingFrom b rest

/-- The canonical form: addresses strictly rising, no value equal to the one an unlisted address reads as. -/
def Memory.wf {α : Type} [DecidableEq α] (d : α) (m : Cells α) : Bool :=
  (match m with
    | [] => true
    | (b, _) :: rest => Memory.risingFrom b rest) && m.all (fun c => decide (c.2 ≠ d))

/-- The value of an erased entry (R153). -/
def erasedEntry : Entry := 65535#16

/-- The address of entry `e` of slot `n` (R153). -/
def cellAddress (slot entry : Nat) : Nat := 256 * slot + entry

/-- Entry `e` of slot `n` as it reads. -/
def Store.entry (st : Store) (slot e : Nat) : Entry := Memory.read erasedEntry st.cells (cellAddress slot e)

/-- The store with one entry of a slot changed. -/
def Store.setEntry (st : Store) (slot e : Nat) (x : Entry) : Store :=
  { st with cells := Memory.write erasedEntry st.cells (cellAddress slot e) x }

/-- The record of a slot; the list of records is sparse, a slot not listed is BLANK. -/
def Store.slotRec (st : Store) (slot : Nat) : SlotRec := Memory.read SlotRec.blank st.slots slot

/-- The store with a slot's record changed. -/
def Store.setSlot (st : Store) (slot : Nat) (r : SlotRec) : Store :=
  { st with slots := Memory.write SlotRec.blank st.slots slot r }

/-- The store with one more fault counted (R153, R154). -/
def Store.addFault (st : Store) : Store := { st with faults := countTo 65535 st.faults }

/-! ### Updates of the state by unit -/

/-- The record of stand `k`. -/
def State.stand (s : State) (k : Nat) : Stand := s.stands.get k

/-- The state with stand `k` changed. -/
def State.mapStand (s : State) (k : Nat) (f : Stand → Stand) : State := { s with stands := s.stands.set k (f (s.stands.get k)) }

/-- The state with every stand changed by a function of its number. -/
def State.mapStands (s : State) (f : Nat → Stand → Stand) : State := { s with stands := s.stands.mapIdx f }

/-- The state with stand `k`'s stand record changed. -/
def State.mapSc (s : State) (k : Nat) (f : StandRec → StandRec) : State := s.mapStand k (fun st => { st with sc := f st.sc })

/-- The state with stand `k`'s GCU record changed. -/
def State.mapGcu (s : State) (k : Nat) (f : Gcu → Gcu) : State := s.mapStand k (fun st => { st with gcu := f st.gcu })

/-- The state with stand `k`'s calibration record changed. -/
def State.mapCal (s : State) (k : Nat) (f : Cal → Cal) : State := s.mapStand k (fun st => { st with cal := f st.cal })

/-- The state with the timebase changed. -/
def State.mapTb (s : State) (f : Timebase → Timebase) : State := { s with tb := f s.tb }

/-- The state with the tracker changed. -/
def State.mapTrack (s : State) (f : Tracker → Tracker) : State := { s with track := f s.track }

/-- The state with the trip unit changed. -/
def State.mapTrips (s : State) (f : TripUnit → TripUnit) : State := { s with trips := f s.trips }

/-- The state with the store changed. -/
def State.mapStore (s : State) (f : Store → Store) : State := { s with store := f s.store }

/-- The state with the trace unit changed. -/
def State.mapTrace (s : State) (f : Trace → Trace) : State := { s with trace := f s.trace }

/-- The state with the link controller changed. -/
def State.mapLink (s : State) (f : Link → Link) : State := { s with link := f s.link }

/-- A step made for each stand number of 1 to `n`, in stand order. -/
def State.forStands (s : State) (n : Nat) (f : Nat → State → State) : State := (standsTo n).foldl (fun t k => f k t) s

/-! ### Reports and triggers -/

/-- An event report of cycle `c` is queued in the report queue of 32 places, or discarded with the lost-report flag set
(R185). Every event report of this part fits one frame (log 28). -/
def Link.queueEvent (l : Link) (c : Cycle) (kind : EventKind) (fields : List Int) : Link :=
  if l.reports.length < 32 then { l with reports := l.reports ++ [⟨c, 1, 1, .event kind fields⟩] }
  else { l with lostFlag := true }

/-- An event report carrying the count of cycle `c` in its header. -/
def State.reportAt (s : State) (c : Cycle) (kind : EventKind) (fields : List Int) : State :=
  s.mapLink (fun l => l.queueEvent c kind fields)

/-- An event report of the current cycle. -/
def State.report (s : State) (kind : EventKind) (fields : List Int) : State := s.reportAt s.tb.cycle kind fields

/-- A trigger of the current cycle is given to the trace unit (R177). -/
def State.trigger (s : State) (t : Trigger) : State :=
  s.mapTrace (fun tr => { tr with triggers := tr.triggers ++ [⟨t, none, s.tb.cycle⟩] })

/-! ### Permissive lines (R130) -/

/-- A line is withdrawn exactly when the withdrawal union of some latched stand contains it (R130). -/
def State.lineWithdrawn (s : State) (i : Nat) : Bool :=
  s.stands.toList.any (fun st => st.trip.latch && st.trip.union.getLsbD i)

/-- The level of a permissive line: high while it is given (R130). -/
def State.lineLevel (s : State) (i : Nat) : Bool := !s.lineWithdrawn i

/-- The four line levels as fields, PL0 first (log 12). -/
def State.lineFields (s : State) : List Int := [0, 1, 2, 3].map (fun i => boolField (s.lineLevel i))

/-! ### Stand state changes (R58) -/

/-- The reasons of STAND STATE, by their codes (R58). -/
inductive Reason where
  | armed
  | disarmed
  | positioned
  | retargeted
  | noTarget
  | loadOn
  | threadDone
  | threadTimeout
  | tailOut
  | tailClear
  | barReleased
  | tripped
  | cleared
  | calibration
  deriving DecidableEq, Repr

/-- A reason's code: its place in the list of R58 (section 11.6). -/
def Reason.code : Reason → Int
  | .armed => 0
  | .disarmed => 1
  | .positioned => 2
  | .retargeted => 3
  | .noTarget => 4
  | .loadOn => 5
  | .threadDone => 6
  | .threadTimeout => 7
  | .tailOut => 8
  | .tailClear => 9
  | .barReleased => 10
  | .tripped => 11
  | .cleared => 12
  | .calibration => 13

/-- Stand `k` goes to a state and sends STAND STATE with the reason (R58). -/
def State.changeState (s : State) (k : Nat) (new : StandState) (why : Reason) : State :=
  let old := (s.stand k).sc.state
  (s.mapSc k (fun r => { r with state := new })).report .standState
    [(k : Int), old.code, new.code, why.code, natField (s.stand k).sc.served]

/-- Stand `k` serves no bar any more, and its integrator is zeroed (R54, R96). -/
def State.unserve (s : State) (k : Nat) : State :=
  s.mapStand k (fun st => { st with sc := { st.sc with served := none }, gcu := { st.gcu with iacc := 0 } })

/-- Stand `k` is parked: both references are RELEASED from the next cycle, and nothing waits for a first reference (R41, R44). -/
def State.park (s : State) (k : Nat) (why : Reason) : State :=
  (s.changeState k .parked why).mapSc k (fun r => { r with armGap := none, armSpeed := none })

/-- Stand `k` goes to POSITIONING with the positioning run at 0 (R41, R53, R54). -/
def State.position (s : State) (k : Nat) (why : Reason) : State :=
  (s.changeState k .positioning why).mapSc k (fun r => { r with posRun := 0 })

end Sys2Proof.Machine
end

