-- ==== Sys2Proof/Machine/Operands.lean ====
section
/-!
DEFINITION. The operand forms: configuration fields by code and index with their ranges (R189, R190), the contents of
the four kinds of slot (R162, section 11.6), the tune fields (R105), and the CRC (R158).
-/

namespace Sys2Proof.Machine

/-! ### Configuration fields (R189) -/

/-- A stand field by its code, 16 to 31 (R189). -/
def StandConf.field (c : StandConf) : Nat → Int
  | 16 => c.fOn
  | 17 => c.fOff
  | 18 => c.tolerance
  | 19 => c.followLimit
  | 20 => c.nFollow
  | 21 => c.runawayLimit
  | 22 => c.nRun
  | 23 => c.sMin
  | 24 => c.sMax
  | 25 => c.curveSlot
  | 26 => c.escapeGap
  | 27 => c.escapeSlew
  | 28 => c.mLimit
  | 29 => c.tLimit
  | 30 => c.speedSlew
  | _ => c.speedRamp

/-- A stand's configuration with the field of a code, 16 to 31, replaced. -/
def StandConf.setField (c : StandConf) (code : Nat) (v : Int) : StandConf :=
  match code with
  | 16 => { c with fOn := v }
  | 17 => { c with fOff := v }
  | 18 => { c with tolerance := v }
  | 19 => { c with followLimit := v }
  | 20 => { c with nFollow := v }
  | 21 => { c with runawayLimit := v }
  | 22 => { c with nRun := v }
  | 23 => { c with sMin := v }
  | 24 => { c with sMax := v }
  | 25 => { c with curveSlot := v }
  | 26 => { c with escapeGap := v }
  | 27 => { c with escapeSlew := v }
  | 28 => { c with mLimit := v }
  | 29 => { c with tLimit := v }
  | 30 => { c with speedSlew := v }
  | 31 => { c with speedRamp := v }
  | _ => c

/-- A row field by its code, 32 to 35 (R189). -/
def Row.field (r : Row) : Nat → Int
  | 32 => r.own
  | 33 => r.same
  | 34 => r.other
  | _ => r.withdraw

/-- A row with the field of a code, 32 to 35, replaced. -/
def Row.setField (r : Row) (code : Nat) (v : Int) : Row :=
  match code with
  | 32 => { r with own := v }
  | 33 => { r with same := v }
  | 34 => { r with other := v }
  | 35 => { r with withdraw := v }
  | _ => r

/-- Row 0 to 14 of the trip matrix (R189). -/
def Matrix.row (m : Matrix) : Nat → Row
  | 0 => m.estop0
  | 1 => m.estop1
  | 2 => m.estop2
  | 3 => m.estop3
  | 4 => m.host
  | 5 => m.measurementLost
  | 6 => m.headMissed
  | 7 => m.unexpectedLoad
  | 8 => m.unreadyStand
  | 9 => m.loadLost
  | 10 => m.runaway
  | 11 => m.followError
  | 12 => m.syncLost
  | 13 => m.barAbandoned
  | _ => m.barOverflow

/-- The matrix with row 0 to 14 replaced. -/
def Matrix.setRow (m : Matrix) (i : Nat) (r : Row) : Matrix :=
  match i with
  | 0 => { m with estop0 := r }
  | 1 => { m with estop1 := r }
  | 2 => { m with estop2 := r }
  | 3 => { m with estop3 := r }
  | 4 => { m with host := r }
  | 5 => { m with measurementLost := r }
  | 6 => { m with headMissed := r }
  | 7 => { m with unexpectedLoad := r }
  | 8 => { m with unreadyStand := r }
  | 9 => { m with loadLost := r }
  | 10 => { m with runaway := r }
  | 11 => { m with followError := r }
  | 12 => { m with syncLost := r }
  | 13 => { m with barAbandoned := r }
  | 14 => { m with barOverflow := r }
  | _ => m

/-- A function applied to every row. -/
def Matrix.map (f : Row → Row) (m : Matrix) : Matrix :=
  { estop0 := f m.estop0, estop1 := f m.estop1, estop2 := f m.estop2, estop3 := f m.estop3, host := f m.host
    measurementLost := f m.measurementLost, headMissed := f m.headMissed, unexpectedLoad := f m.unexpectedLoad
    unreadyStand := f m.unreadyStand, loadLost := f m.loadLost, runaway := f m.runaway
    followError := f m.followError, syncLost := f m.syncLost, barAbandoned := f m.barAbandoned
    barOverflow := f m.barOverflow }

/-- The stand of channels 0 to 20 (section 2.1). -/
def chanStand (ch : Nat) : Nat := ch / 3 + 1

/-- The scaling of channel 0 to 23: gap, force and speed of stands 1 to 7, then the gauges (section 2.1). -/
def Conf.scaling (c : Conf) (ch : Nat) : Scaling :=
  if 21 ≤ ch then (c.gauges.get (ch - 20)).scale
  else
    let st := c.stands.get (chanStand ch)
    if ch % 3 = 0 then st.gapScale else if ch % 3 = 1 then st.forceScale else st.speedScale

/-- The configuration with the scaling of a channel replaced. -/
def Conf.setScaling (c : Conf) (ch : Nat) (x : Scaling) : Conf :=
  if 21 ≤ ch then
    { c with gauges := c.gauges.set (ch - 20) { c.gauges.get (ch - 20) with scale := x } }
  else
    let st := c.stands.get (chanStand ch)
    let st' := if ch % 3 = 0 then { st with gapScale := x }
      else if ch % 3 = 1 then { st with forceScale := x } else { st with speedScale := x }
    { c with stands := c.stands.set (chanStand ch) st' }

/-- The field codes and indexes of R189; a field that takes no index has the index 0 (section 11.6). -/
def fieldExists (code index : Nat) : Bool :=
  if code = 4 then decide (1 ≤ index ∧ index ≤ 6)
  else if 10 ≤ code ∧ code ≤ 13 then decide (1 ≤ index ∧ index ≤ 3)
  else if code = 14 ∨ code = 15 then decide (index ≤ 23)
  else if 16 ≤ code ∧ code ≤ 31 then decide (1 ≤ index ∧ index ≤ 7)
  else if 32 ≤ code ∧ code ≤ 35 then decide (index ≤ 14)
  else decide (1 ≤ code ∧ code ≤ 9 ∧ index = 0)

/-- A configuration field by code and index (R189). -/
def Conf.field (c : Conf) (code index : Nat) : Int :=
  match code with
  | 1 => c.standCount
  | 2 => c.period
  | 3 => c.preferred
  | 4 => c.zones.get index
  | 5 => c.release
  | 6 => c.wEarly
  | 7 => c.wHead
  | 8 => c.wTail
  | 9 => c.clearance
  | 10 => (c.gauges.get index).zone
  | 11 => (c.gauges.get index).dist
  | 12 => (c.gauges.get index).bound
  | 13 => (c.gauges.get index).divider
  | 14 => (c.scaling index).gain
  | 15 => (c.scaling index).offset
  | _ => if code ≤ 31 then (c.stands.get index).field code else (c.matrix.row index).field code

/-- The configuration with a field replaced by code and index (R190). -/
def Conf.setField (c : Conf) (code index : Nat) (v : Int) : Conf :=
  let setGauge (f : GaugeConf → GaugeConf) : Conf := { c with gauges := c.gauges.set index (f (c.gauges.get index)) }
  match code with
  | 1 => { c with standCount := v }
  | 2 => { c with period := v }
  | 3 => { c with preferred := v }
  | 4 => { c with zones := c.zones.set index v }
  | 5 => { c with release := v }
  | 6 => { c with wEarly := v }
  | 7 => { c with wHead := v }
  | 8 => { c with wTail := v }
  | 9 => { c with clearance := v }
  | 10 => setGauge (fun g => { g with zone := v })
  | 11 => setGauge (fun g => { g with dist := v })
  | 12 => setGauge (fun g => { g with bound := v })
  | 13 => setGauge (fun g => { g with divider := v })
  | 14 => c.setScaling index { c.scaling index with gain := v }
  | 15 => c.setScaling index { c.scaling index with offset := v }
  | _ =>
    if code ≤ 31 then { c with stands := c.stands.set index ((c.stands.get index).setField code v) }
    else { c with matrix := c.matrix.setRow index ((c.matrix.row index).setField code v) }

/-- The structural fields in one list (R189). -/
def Conf.structural (c : Conf) : List Int :=
  [c.standCount, c.period, c.release, c.zones.z1, c.zones.z2, c.zones.z3, c.zones.z4, c.zones.z5, c.zones.z6]
    ++ [c.gauges.g1, c.gauges.g2, c.gauges.g3].flatMap (fun g => [g.zone, g.dist, g.bound])
    ++ (List.range 24).flatMap (fun ch => [(c.scaling ch).gain, (c.scaling ch).offset])

/-! ### Ranges and orderings (R15, R30, R33, R78, R84, R103, R121, R124, R129) -/

/-- Tc as the nearest of 500, 1,000 and 2,000, a midway value taken to the lower (R15). -/
def clampPeriod (v : Int) : Int := if v ≤ 750 then 500 else if v ≤ 1500 then 1000 else 2000

/-- Gain and offset in their ranges (R30). -/
def Scaling.clamped (x : Scaling) : Scaling := ⟨clampTo (-32768) 32767 x.gain, clampTo (-65535) 65535 x.offset⟩

/-- A stand's fields in their ranges (R33, R103, R121, R129), F_off below F_on and S_min below S_max (R33). -/
def StandConf.clamped (c : StandConf) : StandConf :=
  let fOn := clampTo 200 40000 c.fOn
  let fOff := clampTo 100 39999 c.fOff
  let sMin := clampTo 0 59999 c.sMin
  let sMax := clampTo 1 60000 c.sMax
  { gapScale := c.gapScale.clamped, forceScale := c.forceScale.clamped, speedScale := c.speedScale.clamped
    fOn := fOn, fOff := if fOn ≤ fOff then fOn - 1 else fOff
    tolerance := clampTo 10 2000 c.tolerance, followLimit := clampTo 50 20000 c.followLimit
    nFollow := clampTo 1 255 c.nFollow, runawayLimit := clampTo 50 30000 c.runawayLimit, nRun := clampTo 1 255 c.nRun
    sMin := if sMax ≤ sMin then sMax - 1 else sMin, sMax := sMax
    curveSlot := clampTo 0 7 c.curveSlot, escapeGap := clampTo 0 60000 c.escapeGap
    escapeSlew := clampTo 1 2000 c.escapeSlew, mLimit := clampTo 0 2000 c.mLimit, tLimit := clampTo 0 50000 c.tLimit
    speedSlew := clampTo 1 2000 c.speedSlew, speedRamp := clampTo 1 5000 c.speedRamp }

/-- A row's codes in their ranges (R124). DESIGN CHOICE, log 25: a negative code becomes NONE and a withdraw set is
clamped to 0 to 15. Unsafe. -/
def Row.clamped (r : Row) : Row :=
  ⟨clampTo 0 4 r.own, clampTo 0 4 r.same, clampTo 0 4 r.other, clampTo 0 15 r.withdraw⟩

/-- A gauge's fields in their ranges (R27, R78). DESIGN CHOICE, log 25: a binding is clamped to 0 to 1. Unsafe. -/
def GaugeConf.clamped (g : GaugeConf) : GaugeConf :=
  { zone := clampTo 0 7 g.zone, dist := clampTo 1 29999 g.dist, bound := clampTo 0 1 g.bound
    divider := clampTo 0 6 g.divider, scale := g.scale.clamped }

/-- Each field in its range by itself (R190). -/
def Conf.ranged (c : Conf) : Conf :=
  { standCount := clampTo 2 7 c.standCount, period := clampPeriod c.period, preferred := clampTo 0 1 c.preferred
    zones := c.zones.map (clampTo 1000 12000), release := clampTo 2000 30000 c.release
    wEarly := clampTo 0 3000 c.wEarly, wHead := clampTo 0 3000 c.wHead, wTail := clampTo 0 3000 c.wTail
    clearance := clampTo 200 5000 c.clearance, gauges := c.gauges.mapIdx (fun _ g => g.clamped)
    stands := c.stands.mapIdx (fun _ st => st.clamped), matrix := c.matrix.map Row.clamped }

/-- The zone lengths of zones 1 to N−1, in mm (R84). -/
def Conf.innerZones (c : Conf) : List Int := (standsTo (c.n - 1)).map c.zones.get

/-- A gauge's distance kept inside a zone below N (R78). -/
def Conf.keepGauge (c : Conf) (g : GaugeConf) : GaugeConf :=
  if 1 ≤ g.zone ∧ g.zone < c.standCount ∧ c.zones.get g.zone.toNat ≤ g.dist then
    { g with dist := c.zones.get g.zone.toNat - 1 }
  else g

/-- The least release distance that lies beyond every gauge placed in zone N (R78). -/
def Conf.releaseFloor (c : Conf) : Int :=
  [c.gauges.g1, c.gauges.g2, c.gauges.g3].foldl
    (fun m g => if g.zone = c.standCount then max m (g.dist + 1) else m) 0

/-- The ordering clamps on fields already in range: d_g, the release distance and W_tail (R78, R84). -/
def Conf.ordered (c : Conf) : Conf :=
  let c := { c with gauges := c.gauges.mapIdx (fun _ g => c.keepGauge g) }
  let c := { c with release := max c.release c.releaseFloor }
  { c with wTail := c.innerZones.foldl (fun w l => min w (l - 1)) c.wTail }

/-- The configuration with every field clamped and every ordering made (R190). -/
def Conf.clamped (c : Conf) : Conf := c.ranged.ordered

/-- Gauge `g` is bound to a stand that is configured (R78). -/
def Conf.binds (c : Conf) (g : Nat) : Bool :=
  let x := c.gauges.get g
  decide (x.bound ≠ 0 ∧ 1 ≤ x.zone ∧ x.zone ≤ c.standCount)

/-- Two gauges are bound to one stand (R78). -/
def Conf.doubleBinding (c : Conf) : Bool :=
  let pair (a b : Nat) : Bool := c.binds a && c.binds b && decide ((c.gauges.get a).zone = (c.gauges.get b).zone)
  pair 1 2 || pair 1 3 || pair 2 3

/-- Of two gauges bound to one stand the lower-numbered keeps its binding (R168). -/
def Conf.singleBinding (c : Conf) : Conf :=
  let clash (c : Conf) (a b : Nat) : Conf :=
    if c.binds a && c.binds b && decide ((c.gauges.get a).zone = (c.gauges.get b).zone) then
      { c with gauges := c.gauges.set b { c.gauges.get b with bound := 0 } }
    else c
  clash (clash (clash c 1 2) 1 3) 2 3

/-! ### Entries and the CRC (R153, R158) -/

/-- An entry as an unsigned number. -/
def uEntry (x : Entry) : Int := (x.toNat : Int)

/-- A number as an entry, in 16-bit two's complement. -/
def toEntry (v : Int) : Entry := BitVec.ofInt 16 v

/-- One bit of the CRC register: shifted up, with the generator 0x1021 added when the bit that falls out is set (R158). -/
def crcBit (r : Entry) : Entry := if r.msb then (r <<< 1) ^^^ 0x1021#16 else r <<< 1

/-- One byte, most significant bit first (R158). -/
def crcByte (r : Entry) (b : Byte) : Entry :=
  crcBit (crcBit (crcBit (crcBit (crcBit (crcBit (crcBit (crcBit (r ^^^ (b.setWidth 16 <<< 8)))))))))

/-- The CRC-16 of R158 over bytes: initial value 0xFFFF, no final inversion. -/
def crc16 (bytes : List Byte) : Entry := bytes.foldl crcByte 0xFFFF#16

/-- An entry as two bytes, the more significant first (R158). -/
def entryBytes (x : Entry) : List Byte := [(x >>> 8).setWidth 8, x.setWidth 8]

/-- The CRC of a slot's entries 0 to 251 (R158). -/
def Store.slotCrc (st : Store) (slot : Nat) : Entry :=
  crc16 ((Memory.readAll erasedEntry st.cells (cellAddress slot 0) 252).flatMap entryBytes)

/-! ### Slot contents (section 11.6) -/

/-- The configuration of a slot's entries, before clamping (section 11.6). -/
def Conf.ofSlot (e : Nat → Entry) : Conf :=
  let u (i : Nat) : Int := uEntry (e i)
  let stand (k : Nat) : StandConf :=
    (List.range 16).foldl (fun c i => c.setField (16 + i) (u (98 + 16 * (k - 1) + i))) (.default k)
  let gauge (g : Nat) : GaugeConf :=
    { zone := u (14 + 4 * (g - 1)), dist := u (15 + 4 * (g - 1))
      bound := if e (16 + 4 * (g - 1)) = 0 then 0 else 1, divider := u (17 + 4 * (g - 1)), scale := .default }
  let row (i : Nat) : Row :=
    let x := u (210 + i)
    ⟨x % 8, x / 8 % 8, x / 64 % 8, x / 512⟩
  let c : Conf :=
    { standCount := u 0, period := u 1, preferred := u 2, zones := ⟨u 3, u 4, u 5, u 6, u 7, u 8⟩, release := u 9
      wEarly := u 10, wHead := u 11, wTail := u 12, clearance := u 13
      gauges := ⟨gauge 1, gauge 2, gauge 3⟩
      stands := ⟨stand 1, stand 2, stand 3, stand 4, stand 5, stand 6, stand 7⟩
      matrix := (List.range 15).foldl (fun m i => m.setRow i (row i)) .default }
  (List.range 24).foldl
    (fun c ch => c.setScaling ch ⟨(e (26 + 3 * ch)).toInt, (e (27 + 3 * ch) ++ e (28 + 3 * ch)).toInt⟩) c

/-- The entries 0 to 227 that CONFIG SAVE writes (R161, section 11.6). -/
def Conf.toSlot (c : Conf) : List Entry :=
  let offset (v : Int) : List Entry := [(BitVec.ofInt 32 v >>> 16).setWidth 16, (BitVec.ofInt 32 v).setWidth 16]
  ([c.standCount, c.period, c.preferred, c.zones.z1, c.zones.z2, c.zones.z3, c.zones.z4, c.zones.z5, c.zones.z6,
      c.release, c.wEarly, c.wHead, c.wTail, c.clearance]
    ++ [c.gauges.g1, c.gauges.g2, c.gauges.g3].flatMap (fun g => [g.zone, g.dist, g.bound, g.divider])).map toEntry
    ++ (List.range 24).flatMap (fun ch => toEntry (c.scaling ch).gain :: offset (c.scaling ch).offset)
    ++ c.stands.toList.flatMap (fun st => (List.range 16).map (fun i => toEntry (st.field (16 + i))))
    ++ (List.range 15).map (fun i =>
        let r := c.matrix.row i
        toEntry (r.own + 8 * r.same + 64 * r.other + 512 * r.withdraw))
    ++ [erasedEntry, erasedEntry, erasedEntry]

/-- The stand record of a schedule slot at its first entry, before clamping (section 11.6). -/
def StandSched.ofSlot (e : Nat → Entry) (base : Nat) : StandSched :=
  let u (i : Nat) : Int := uEntry (e (base + i))
  let s (i : Nat) : Int := (e (base + i)).toInt
  { hRef := u 0, sBase := u 1, vSched := u 2, slip := u 3, kp := s 4, kpShift := u 5, ki := s 6, kiShift := u 7
    g := u 8, q := u 9, ePos := u 10, eNeg := u 11, ePosSt := u 12, eNegSt := u 13, iLim := u 14, hi := u 15
    lo := u 16, rollSlew := u 17, startSlew := u 18, windup := decide (e (base + 19) ≠ 0), mode := .ofCode (u 20)
    mg := u 21, nMask := u 22, threadLimit := u 23 }

/-- A stand record with its fields in the ranges of R162. -/
def StandSched.clamped (x : StandSched) : StandSched :=
  { hRef := clampTo 500 30000 x.hRef, sBase := clampTo 0 50000 x.sBase, vSched := clampTo 0 25000 x.vSched
    slip := clampTo 0 60000 x.slip, kp := clampTo (-32768) 32767 x.kp, kpShift := clampTo 0 15 x.kpShift
    ki := clampTo (-32768) 32767 x.ki, kiShift := clampTo 0 15 x.kiShift, g := clampTo 128 1024 x.g
    q := clampTo 0 4 x.q, ePos := clampTo 0 4000 x.ePos, eNeg := clampTo 0 4000 x.eNeg
    ePosSt := clampTo 0 4000 x.ePosSt, eNegSt := clampTo 0 4000 x.eNegSt, iLim := clampTo 0 8000 x.iLim
    hi := clampTo 0 5000 x.hi, lo := clampTo 0 5000 x.lo, rollSlew := clampTo 1 500 x.rollSlew
    startSlew := clampTo 1 500 x.startSlew, windup := x.windup, mode := x.mode, mg := clampTo 0 256 x.mg
    nMask := clampTo 0 255 x.nMask, threadLimit := clampTo 16 4000 x.threadLimit }

/-- A record that holds nothing: what stands beyond the header's stand count have (R162). -/
def StandSched.empty : StandSched :=
  { hRef := 0, sBase := 0, vSched := 0, slip := 0, kp := 0, kpShift := 0, ki := 0, kiShift := 0, g := 0, q := 0
    ePos := 0, eNeg := 0, ePosSt := 0, eNegSt := 0, iLim := 0, hi := 0, lo := 0, rollSlew := 0, startSlew := 0
    windup := false, mode := .off, mg := 0, nMask := 0, threadLimit := 0 }

/-- The first entry of stand `k`'s record (section 11.6). -/
def schedBase (k : Nat) : Nat := 3 + 24 * (k - 1)

/-- A schedule of a slot's entries, clamped, and whether any field copied was clamped (R162, R163). -/
def Sched.ofSlot (e : Nat → Entry) : Sched × Bool :=
  let count := uEntry (e 1)
  let used (k : Nat) : Bool := decide ((k : Int) ≤ count)
  let raw (k : Nat) : StandSched := .ofSlot e (schedBase k)
  let rec_ (k : Nat) : StandSched := if used k then (raw k).clamped else .empty
  let id := uEntry (e 0)
  let pitch := uEntry (e 2)
  let cut (k : Nat) : Bool :=
    used k && (decide ((raw k).clamped ≠ raw k) || decide (2 < uEntry (e (schedBase k + 20))))
  ({ id := clampTo 1 65535 id, count := count, pitch := clampTo 200 2000 pitch
     stands := ⟨rec_ 1, rec_ 2, rec_ 3, rec_ 4, rec_ 5, rec_ 6, rec_ 7⟩ },
   decide (clampTo 1 65535 id ≠ id) || decide (clampTo 200 2000 pitch ≠ pitch) || [1, 2, 3, 4, 5, 6, 7].any cut)

/-- The points of a curve slot, a stretch above 20,000 taken as 20,000 (R167). -/
def curvePoints (e : Nat → Entry) : List (Int × Int) :=
  (List.range (e 0).toNat).map (fun i => (uEntry (e (2 * i + 1)), min 20000 (uEntry (e (2 * i + 2)))))

/-- The forces of a curve rise strictly (R167). -/
def risingForces : List (Int × Int) → Bool
  | a :: b :: rest => decide (a.1 < b.1) && risingForces (b :: rest)
  | _ => true

/-- The zero and known mark of stand `k` in the calibration slot; an entry out of range is 0, not known (R152). -/
def zeroOfSlot (e : Nat → Entry) (k : Nat) : Int × Bool :=
  let v := (e (k - 1)).toInt
  if -5000 ≤ v ∧ v ≤ 10000 then (v, (e 7).getLsbD (k - 1)) else (0, false)

/-! ### Tune fields (R105) -/

/-- The range of the tune field of a code 0 to 12 (R105). -/
def tuneRange : Nat → Int × Int
  | 0 => (-32768, 32767)
  | 1 => (0, 15)
  | 2 => (-32768, 32767)
  | 3 => (0, 15)
  | 4 => (128, 1024)
  | 5 => (0, 4)
  | 6 => (0, 4000)
  | 7 => (0, 4000)
  | 8 => (0, 8000)
  | 9 => (0, 5000)
  | 10 => (0, 5000)
  | 11 => (1, 500)
  | _ => (0, 256)

/-- A value clamped to the range of its tune field (R105). -/
def tuneClamp (code : Nat) (v : Int) : Int := clampTo (tuneRange code).1 (tuneRange code).2 v

/-- An override with the field of a code 0 to 12 entered (R105, section 11.6). -/
def Tune.setField (t : Tune) (code : Nat) (v : Int) : Tune :=
  match code with
  | 0 => { t with kp := some v }
  | 1 => { t with kpShift := some v }
  | 2 => { t with ki := some v }
  | 3 => { t with kiShift := some v }
  | 4 => { t with g := some v }
  | 5 => { t with q := some v }
  | 6 => { t with ePos := some v }
  | 7 => { t with eNeg := some v }
  | 8 => { t with iLim := some v }
  | 9 => { t with hi := some v }
  | 10 => { t with lo := some v }
  | 11 => { t with rollSlew := some v }
  | 12 => { t with mg := some v }
  | _ => t

/-- The thirteen fields in code order (section 11.6). -/
def Tune.toList (t : Tune) : List (Option Int) :=
  [t.kp, t.kpShift, t.ki, t.kiShift, t.g, t.q, t.ePos, t.eNeg, t.iLim, t.hi, t.lo, t.rollSlew, t.mg]

/-- A schedule record with the override's fields in place of its own (R87). -/
def StandSched.tuned (x : StandSched) (t : Tune) : StandSched :=
  { x with
    kp := t.kp.getD x.kp, kpShift := t.kpShift.getD x.kpShift, ki := t.ki.getD x.ki, kiShift := t.kiShift.getD x.kiShift
    g := t.g.getD x.g, q := t.q.getD x.q, ePos := t.ePos.getD x.ePos, eNeg := t.eNeg.getD x.eNeg
    iLim := t.iLim.getD x.iLim, hi := t.hi.getD x.hi, lo := t.lo.getD x.lo, rollSlew := t.rollSlew.getD x.rollSlew
    mg := t.mg.getD x.mg }

end Sys2Proof.Machine
end

