-- ==== Sys2Proof/Machine/Targets.lean ====
section
/-!
DEFINITION. The schedule working memory and the targets of the stands (sections 3.3 and 9.5), and the CRC check of every
copy from the store (R164).
-/

namespace Sys2Proof.Machine

/-! ### Images -/

/-- Bar copy 0 or 1. -/
def Images.copy (im : Images) (c : Nat) : Option Image := if c = 0 then im.copy0 else im.copy1

/-- The images with bar copy 0 or 1 replaced. -/
def Images.setCopy (im : Images) (c : Nat) (x : Option Image) : Images :=
  if c = 0 then { im with copy0 := x } else { im with copy1 := x }

/-- Some image names the slot as its source (R155, R164). -/
def Images.names (im : Images) (slot : Nat) : Bool :=
  (im.staged.map Staged.slot == some slot) || (im.copy0.map Image.slot == some slot)
    || (im.copy1.map Image.slot == some slot)

/-- The bar of an id, when it is in the bar list. -/
def Tracker.bar? (t : Tracker) (id : Nat) : Option Bar := t.bars.find? (fun b => b.id = id)

/-- The bar is in the bar list. -/
def Tracker.has (t : Tracker) (id : Nat) : Bool := t.bars.any (fun b => b.id = id)

/-- The schedule a bar is rolled to: its bar copy (R166). -/
def State.barCopy (s : State) (id : Nat) : Option Sched :=
  ((s.track.bar? id).bind (fun b => s.images.copy b.copy)).map Image.sched

/-- A bar copy's fields for stand `k`. -/
def State.barSched (s : State) (id k : Nat) : Option StandSched := (s.barCopy id).map (fun x => x.stands.get k)

/-- The fields of the bar that stand `k` serves, for that stand (R87). -/
def State.servedSched (s : State) (k : Nat) : Option StandSched := (s.stand k).sc.served.bind (fun id => s.barSched id k)

/-- The target of stand `k`: the oldest bar whose head has not reached it, or the staged schedule, or none (R40). -/
def State.targetOf (s : State) (k : Nat) : Target :=
  match s.track.bars.find? (fun b => decide (b.furthest < k)) with
  | some b => .bar b.id
  | none => if s.images.staged.isSome then .staged else .nothing

/-- The fields of a target for stand `k`. -/
def State.schedOf (s : State) (k : Nat) : Target → Option StandSched
  | .bar id => s.barSched id k
  | .staged => s.images.staged.map (fun x => x.sched.stands.get k)
  | .nothing => none

/-- The schedule of a target, whole. -/
def State.schedWhole (s : State) : Target → Option Sched
  | .bar id => s.barCopy id
  | .staged => s.images.staged.map Staged.sched
  | .nothing => none

/-- The fields of stand `k`'s target as recorded. -/
def State.targetSched (s : State) (k : Nat) : Option StandSched := s.schedOf k (s.stand k).sc.target

/-- The target gap: S0 + S_base, clamped to the stand limits in force (R40). -/
def gapFor (zero sMin sMax : Int) (x : StandSched) : Int := clampTo sMin sMax (zero + x.sBase)

/-- The target gap of stand `k` as it stands (R40). -/
def State.targetGap (s : State) (k : Nat) : Option Int :=
  let st := s.stand k
  (s.targetSched k).map (gapFor st.gcu.zero st.sc.sMin st.sc.sMax)

/-- The bar a target names. -/
def Target.barId : Target → Option Nat
  | .bar id => some id
  | _ => none

/-- The gap held lies within the positioning tolerance of a gap (R41, R46). -/
def State.withinTolerance (s : State) (k : Nat) (gap : Int) : Bool :=
  decide (|(s.stand k).chans.gap.value - gap| ≤ (s.force.stands.get k).tolerance)

/-- Stand `k` takes its target afresh after a change of the bar list, a head's progress or the staged buffer; `old` is the
state before that change and `restaged` says that the staged buffer was replaced. A READY stand stays READY when its gap lies
within the tolerance of the new target gap, or when it had the staged schedule for its target and the new one is an identical
copy of that (R40, R41). -/
def State.retargetStand (old : State) (restaged : Bool) (k : Nat) (s : State) : State :=
  let new := s.targetOf k
  let sc := (s.stand k).sc
  if new = sc.target ∧ ¬(restaged ∧ new = .staged) then s
  else
    let s' := s.mapSc k (fun r => { r with target := new })
    match sc.state with
    | .positioning =>
      if new = .nothing then s'.park k .noTarget else s'.mapSc k (fun r => { r with posRun := 0 })
    | .ready =>
      match s'.targetGap k with
      | none => s'.park k .noTarget
      | some gap =>
        let copied := decide (sc.target = .staged) && decide (old.schedWhole .staged = s'.schedWhole new)
        if s'.withinTolerance k gap || copied then s'
        else s'.position k .retargeted
    | _ => s'

/-- Every configured stand takes its target afresh (R40, R41). -/
def State.retarget (s : State) (old : State) (restaged : Bool) : State :=
  s.forStands s.conf.n (State.retargetStand old restaged)

/-! ### Pending damage and the check of a copy (R164) -/

/-- A slot that carries a pending damage mark becomes DAMAGED once no image names it (R164). DESIGN CHOICE, log 24: the
mark is cleared with it. Unsafe. -/
def State.settleDamage (s : State) (slot : Nat) : State :=
  let r := s.store.slotRec slot
  if r.damage ∧ ¬s.images.names slot then
    s.mapStore (fun st => st.setSlot slot { r with state := .damaged, damage := false })
  else s

/-- The CRC of a slot's entries 0 to 251 equals entry 255 (R164). -/
def Store.crcMatches (st : Store) (slot : Nat) : Bool := decide (st.slotCrc slot = st.entry slot 255)

/-- A failed CRC check: the fault is counted; the slot is DAMAGED, or keeps its state with pending damage while an image
names it (R164). -/
def State.crcFailure (s : State) (slot : Nat) : State :=
  let r := s.store.slotRec slot
  let r' := if s.images.names slot then { r with damage := true } else { r with state := .damaged }
  s.mapStore (fun st => (st.addFault).setSlot slot r')

/-- The check before a copy from a slot: the state it leaves, and whether the copy may proceed (R164). -/
def State.checkCopy (s : State) (slot : Nat) : State × Bool :=
  if s.store.crcMatches slot then (s, true) else (s.crcFailure slot, false)

/-! ### Removal of a bar (R61) -/

/-- A bar leaves the bar list with its segments; its copy becomes free, and a slot with pending damage that no image names
any more becomes DAMAGED (R61, R66, R81, R166). -/
def State.dropBar (s : State) (b : Bar) : State :=
  let slot := (s.images.copy b.copy).map Image.slot
  let s := s.mapTrack (fun t =>
    { t with segs := t.segs.filter (fun x => x.bar ≠ b.id), bars := t.bars.filter (fun x => x.id ≠ b.id) })
  let s := { s with images := s.images.setCopy b.copy none }
  match slot with
  | some n => s.settleDamage n
  | none => s

/-- A bar is removed and every stand's target is worked out again (R61). -/
def State.removeBar (s : State) (b : Bar) : State := (s.dropBar b).retarget s false

/-- A TRIPPED stand whose bar served has left the list serves none (R54). -/
def State.unserveGone (s : State) (k : Nat) : State :=
  match (s.stand k).sc.served with
  | some id => if (s.stand k).sc.state = .tripped ∧ ¬s.track.has id then s.unserve k else s
  | none => s

end Sys2Proof.Machine
end

