-- ==== Sys2Proof/Machine/Trips.lean ====
section
/-!
DEFINITION. The trip unit: the application of a source through the trip matrix, latches and escalations, trip records,
and bar abandonment (chapter 7).
-/

namespace Sys2Proof.Machine

/-! ### The action given (R124, R125) -/

/-- The row of a source kind in the matrix in force; RESET gives RELEASE and all lines (R124). -/
def State.rowOf (s : State) (kind : Kind) : Row :=
  if kind = .reset then ⟨4, 4, 4, 15⟩ else s.force.matrix.row kind.code

/-- The withdraw set of a row (R124). -/
def Row.lines (r : Row) : Lines := BitVec.ofInt 4 r.withdraw

/-- The bar of a source: its own, or the bar served by the stand it names (R122). -/
def State.sourceBar (s : State) (src : Source) : Option Nat :=
  src.bar.or (src.stand.bind (fun k => if 1 ≤ k ∧ k ≤ s.conf.n then (s.stand k).sc.served else none))

/-- The action an application gives stand `k`, from its relation to the source (R125). -/
def State.actionFor (s : State) (src : Source) (k : Nat) : Action :=
  let row := s.rowOf src.kind
  let served := (s.stand k).sc.served
  let bar := s.sourceBar src
  let raise (a : Action) : Action := if src.kind = .barAbandoned then a.stronger .hold else a
  if src.stand = some k then raise (.ofCode row.own)
  else if bar.isSome ∧ served = bar then raise (.ofCode row.same)
  else if src.stand = none ∧ served.isSome then .ofCode row.same
  else .ofCode row.other

/-! ### Latches (R126, R57, R150) -/

/-- The content of CAL DONE (R147). DESIGN CHOICE, log 12: a prior result is sent by its place in the list of results, and none as the
absent marker. Unsafe. -/
def State.calDoneFields (s : State) (k : Nat) : List Int :=
  let c := (s.stand k).cal
  [(k : Int), c.result.code, optField (c.prior.map CalResult.code), c.oldZero, optField c.candidate, optField c.sAvg,
   optField c.fAvg, optField c.kissRef, cycleField s.tb.cycle]

/-- A latch ends a calibration at once: result TRIPPED, an earlier failure kept as the prior result, then CAL DONE (R150). -/
def State.tripCalibration (s : State) (k : Nat) : State :=
  let c := (s.stand k).cal
  if c.phase = .nothing then s
  else
    let s := s.mapCal k (fun c =>
      { c with phase := .nothing, prior := if c.result = .ok then none else some c.result, result := .tripped })
    s.report .calDone (s.calDoneFields k)

/-- Stand `k` is moved to TRIPPED: runs, thread count and first sign cleared, the integrator zeroed, a calibration ended,
the bar served kept (R57, R96, R126). -/
def State.moveToTripped (s : State) (k : Nat) : State :=
  let s := s.changeState k .tripped .tripped
  let s := s.mapStand k (fun st =>
    { st with
      sc := { st.sc with posRun := 0, followRun := .zero, runawayRun := .zero, threadCount := 0, firstSign := .nothing
                         armGap := none, armSpeed := none }
      gcu := { st.gcu with iacc := 0 } })
  s.tripCalibration k

/-- A source joins a source set, which holds it once (section 7.3). -/
def joinSource (ids : List SourceId) (id : SourceId) : List SourceId := if id ∈ ids then ids else ids ++ [id]

/-- An application that gives a stand an action acts on its trip record (R126). -/
def StandTrip.given (t : StandTrip) (a : Action) (id : SourceId) (withdraw : Lines) : StandTrip :=
  if a.latching then
    if t.latch then
      { t with action := t.action.stronger a, sources := joinSource t.sources id, union := t.union ||| withdraw }
    else ⟨true, a, [id], withdraw⟩
  else if a = .warn ∧ t.latch then { t with sources := joinSource t.sources id }
  else t

/-- Stand `k` takes the action an application gives it (R126). -/
def State.giveAction (s : State) (src : Source) (k : Nat) (a : Action) : State :=
  let t := (s.stand k).trip
  let s := s.mapStand k (fun st => { st with trip := t.given a src.id (s.rowOf src.kind).lines })
  if a.latching ∧ ¬t.latch then s.moveToTripped k else s

/-! ### Records (R133 to R136) -/

/-- The snapshot of the stand a source names: the last cycle whose gap reference the stand has formed (R134). DESIGN
CHOICE, log 23: absent while the stand has formed none, and for a stand removed, also if added again, before the source is applied.
Unsafe. -/
def State.snapOf (s : State) (src : Source) : Option Snap :=
  src.stand.bind (fun k =>
    let st := s.stand k
    st.sc.formed.map (fun c =>
      { cycle := c, gap := st.chans.gap.value, force := st.chans.force.value, eRaw := st.gcu.q.eRaw
        gapRef := st.sc.gapRef }))

/-- The fields of a snapshot in a record, absent ones marked (section 11.6). -/
def snapFields : Option Snap → List Int
  | none => [absentMarker, absentMarker, absentMarker, absentMarker, absentMarker]
  | some x => [cycleField x.cycle, x.gap, x.force, optField x.eRaw, refField x.gapRef]

/-- A record's fields in the order of R133. -/
def TripRecord.fields (r : TripRecord) : List Int :=
  [(r.number : Int), cycleField r.cycle, (r.kind.code : Int), natField r.index, natField r.bar, (r.affected.length : Int)]
    ++ r.affected.flatMap (fun a => [(a.stand : Int), (a.given.rank : Int), (a.after.rank : Int)])
    ++ snapFields r.snap ++ [boolField r.cleared]

/-- The list with a record at its young end, the oldest of 16 removed (R133). -/
def TripUnit.add (t : TripUnit) (r : TripRecord) : TripUnit :=
  { t with
    records := (if 16 ≤ t.records.length then t.records.drop (t.records.length - 15) else t.records) ++ [r]
    next := nextFromOne t.next }

/-- A record is made: it joins the list, its TRIP report is sent, and it gives its triggers (R133, R136). -/
def State.addRecord (s : State) (src : Source) (affected : List Affected) : State :=
  let waiting := (affected.filter (fun a => a.given.latching)).map Affected.stand
  let r : TripRecord :=
    { number := s.trips.next, cycle := s.tb.cycle, kind := src.kind, index := src.index, bar := s.sourceBar src
      affected := affected, snap := s.snapOf src, cleared := waiting.isEmpty, waiting := waiting, superseded := false }
  let s := s.mapTrips (fun t => t.add r)
  let s := s.report .trip (r.fields ++ s.lineFields)
  waiting.foldl (fun s k => s.trigger (.tripAt k)) (s.trigger .tripAny)

/-- Stands cleared or removed count for the records that list them (R135). -/
def TripUnit.markCleared (t : TripUnit) (ks : List Nat) : TripUnit :=
  { t with records := t.records.map (fun r =>
      if r.superseded then r
      else
        let w := r.waiting.filter (fun k => k ∉ ks)
        { r with waiting := w, cleared := r.cleared || w.isEmpty }) }

/-! ### Abandonment (R81, R131, R132) -/

/-- A bar is abandoned: it leaves the list with its segments, tripped stands serving it serve none, and bar abandoned is
presented for each other stand serving it (R81). A bar no longer in the list is not touched. -/
def State.abandonBar (s : State) (id : Nat) : State × List Source :=
  match s.track.bar? id with
  | none => (s, [])
  | some b =>
    let s := s.removeBar b
    let s := s.forStands s.conf.n (fun k s => s.unserveGone k)
    let left := (standsTo s.conf.n).filter (fun k =>
      decide ((s.stand k).sc.served = some id ∧ (s.stand k).sc.state ∈ [.threading, .rolling, .tailout]))
    (s, left.map (fun k => ⟨.barAbandoned, some k, some id⟩))

/-- The bars an application calls to be abandoned, each once; a HOST source that gives its stand OPEN or RELEASE calls also
for the bars whose head was missed there (R131). DESIGN CHOICE, log 31: they go in stand order, the missed ones last, a bar called
for twice in the later place. Unsafe. -/
def State.abandonCalls (s : State) (src : Source) (bar : Option Nat) (given : List (Nat × Action)) : List Nat :=
  let strong := given.filter (fun p => p.2.abandoning)
  let calls := strong.filterMap (fun p =>
    let st := s.stand p.1
    if st.sc.loaded then st.sc.served.or (if src.stand = some p.1 then bar else none) else none)
  let missed := if src.kind = .host then
      (s.track.bars.filter (fun b => b.missed.isSome && (strong.map Prod.fst).any (fun k =>
        decide (src.stand = some k ∧ b.missed = some k)))).map Bar.id
    else []
  (calls ++ missed).dedup

/-! ### Applications (R123, R125, R126, R134) -/

/-- One application of a source: latches and escalations, then the record, then the abandonments it calls for; with it
the bar abandoned sources it brings about. `fresh` says that a condition source became active in this cycle. -/
def State.applySource (s : State) (src : Source) (fresh : Bool) : State × List Source :=
  let given := (standsTo s.conf.n).map (fun k => (k, s.actionFor src k))
  let bar := s.sourceBar src
  let t := given.foldl (fun t p => t.giveAction src p.1 p.2) s
  let changed := given.any (fun p =>
    p.2.latching && (!(s.stand p.1).trip.latch || decide ((s.stand p.1).trip.action ≠ (t.stand p.1).trip.action)))
  let affected := (given.filter (fun p => decide (p.2 ≠ .nothing))).map (fun p =>
    (⟨p.1, p.2, (t.stand p.1).trip.action⟩ : Affected))
  let t := t.forStands t.conf.n (fun k t => t.unserveGone k)
  let t := if !affected.isEmpty && (!src.kind.condition || fresh || changed) then
      t.addRecord { src with bar := bar } affected
    else t
  (t.abandonCalls src bar given).foldl
    (fun p id =>
      let r := p.1.abandonBar id
      (r.1, p.2 ++ r.2)) (t, [])

/-- Sources are applied in order; the bar abandoned sources an application brings about come next (R132). -/
def State.applyAll : Nat → List (Source × Bool) → State → State
  | 0, _, s => s
  | _, [], s => s
  | fuel + 1, (src, fresh) :: rest, s =>
    let r := s.applySource src fresh
    State.applyAll fuel (r.2.map (fun x => (x, false)) ++ rest) r.1

/-- Sources are applied in order, with all that they bring about: a bar leaves the list once, and brings at most one
source for each stand. -/
def State.applySources (s : State) (srcs : List (Source × Bool)) : State :=
  State.applyAll (srcs.length + 7 * s.track.bars.length) srcs s

/-- Event sources applied in order (R123). -/
def State.applyEvents (s : State) (srcs : List Source) : State := s.applySources (srcs.map (fun x => (x, false)))

end Sys2Proof.Machine
end

