-- ==== Sys2Proof/Machine/Measure.lean ====
section
/-!
DEFINITION. The measurement front end: sample words, scaling, status and ageing, gauges, measurement lost, and the
emergency-stop inputs (chapter 2).
-/

namespace Sys2Proof.Machine

/-- The top of the range of a channel's scaled value; every range begins at 0 (section 2.1). -/
def chanTop (ch : Nat) : Int :=
  if 21 ≤ ch then 30000 else if ch % 3 = 0 then 60000 else if ch % 3 = 1 then 40000 else 25000

/-- The scaled sum before its clamp: raw times gain, divided by 65,536 and truncated, plus the offset (R18). -/
def scaledSum (x : Scaling) (raw : Int) : Int := Int.tdiv (raw * x.gain) 65536 + x.offset

/-- A channel takes a sample: its value scaled and clamped, its mark, OK and age 0 (R18, R20). -/
def Chan.take (c : Chan) (top : Int) (x : Scaling) (w : SampleWord) : Chan :=
  let sum := scaledSum x w.raw
  { c with value := clampTo 0 top sum, overRange := decide (sum < 0) || decide (top < sum) || decide (w.head = .overRange)
           status := .ok, age := 0 }

/-- A sample opportunity without a taken sample: the miss is counted and the status moves on (R20). -/
def Chan.miss (c : Chan) : Chan :=
  let c := { c with misses := countTo 65535 c.misses }
  match c.status with
  | .ok => { c with status := .held, age := 1 }
  | .held => if 3 ≤ c.age then { c with status := .lost, age := 4 } else { c with age := c.age + 1 }
  | .lost => { c with age := 4 }

/-- The taken sample of the cycle: a word whose head status is not FAULT (R18). -/
def Chan.sample (c : Chan) : Option SampleWord := c.word.filter (fun w => decide (w.head ≠ .fault))

/-- A stand channel at the deadline: value, status and age, then the lost condition and its recovery run (R20, R21). -/
def Chan.deadline (c : Chan) (top : Int) (x : Scaling) : Chan :=
  match c.sample with
  | some w =>
    let t := c.take top x w
    if c.lostCond then
      if 1 ≤ c.recovery then { t with lostCond := false, recovery := 0 } else { t with recovery := c.recovery + 1 }
    else t
  | none =>
    let t := c.miss
    if c.status = .held ∧ t.status = .lost then { t with lostCond := true, recovery := 0 } else { t with recovery := 0 }

/-- The cycle is a sample cycle of a gauge with divider `d`: its count is a multiple of 2^d (R24). -/
def sampleCycle (d : Nat) (n : Cycle) : Bool := decide (n.toNat % 2 ^ d = 0)

/-- A gauge channel at the deadline: it changes only in its sample cycles (R24, R25). -/
def Chan.gaugeDeadline (c : Chan) (x : Scaling) (d : Nat) (n : Cycle) : Chan :=
  if sampleCycle d n then
    match c.sample with
    | some w => { c.take 30000 x w with lastSample := some n }
    | none => c.miss
  else c

/-- A gauge's reading is usable in cycle `n`: not LOST, its last sample cycle at most 2^d cycles back (R26). -/
def Chan.usable (c : Chan) (d : Nat) (n : Cycle) : Bool :=
  match c.lastSample with
  | none => false
  | some m => decide (c.status ≠ .lost) && decide ((n - m).toNat ≤ 2 ^ d)

/-- The lost condition of one of the stand's channels is set (R22). -/
def StandChans.anyLost (c : StandChans) : Bool := c.gap.lostCond || c.force.lostCond || c.speed.lostCond

/-- The channel of a stand by its place: gap 0, force 1, speed 2. -/
def StandChans.get (c : StandChans) (i : Nat) : Chan := if i = 0 then c.gap else if i = 1 then c.force else c.speed

/-- A stand's channels at the deadline (R20). -/
def StandChans.deadline (c : StandChans) (conf : StandConf) : StandChans :=
  ⟨c.gap.deadline 60000 conf.gapScale, c.force.deadline 40000 conf.forceScale, c.speed.deadline 25000 conf.speedScale⟩

/-- Reasons of MEASUREMENT, by their codes (R23). -/
inductive MeasReason where
  | channelLost
  | channelOk
  | sourceActive
  | sourceEnded
  | estopActive
  | estopInactive
  deriving DecidableEq, Repr

/-- A reason's code: its place in the list of R23. -/
def MeasReason.code : MeasReason → Int
  | .channelLost => 0
  | .channelOk => 1
  | .sourceActive => 2
  | .sourceEnded => 3
  | .estopActive => 4
  | .estopInactive => 5

/-- A MEASUREMENT report: reason, channel or line number, and the stand or gauge (R23). DESIGN CHOICE, log 12: it has three fields
for every reason, the number absent for a stand's source and the stand absent for an input. Unsafe. -/
def State.reportMeas (s : State) (why : MeasReason) (number owner : Option Nat) : State :=
  s.report .measurement [why.code, natField number, natField owner]

/-- The report of a channel's change, if it has one (R23, R25). -/
def State.reportChange (s : State) (before after : Chan) (ch owner : Nat) : State :=
  if before.status = .held ∧ after.status = .lost then s.reportMeas .channelLost (some ch) (some owner)
  else if before.status = .lost ∧ after.status = .ok then s.reportMeas .channelOk (some ch) (some owner)
  else s

/-- The stands whose own tests run: in force for the cycle, and configured throughout it so far (log 18). -/
def State.liveN (s : State) : Nat := min s.lowN (min s.force.n s.conf.n)

/-- Stand `k`'s channels and its measurement lost source at the deadline, with their reports (R20 to R23). -/
def State.measureStand (k : Nat) (s : State) : State :=
  let old := (s.stand k).chans
  let new := old.deadline (s.force.stands.get k)
  let lost := decide (k ≤ s.liveN) && new.anyLost
  let was := (s.stand k).lostSrc
  let s := s.mapStand k (fun st => { st with chans := new, lostSrc := lost })
  let s := [0, 1, 2].foldl (fun s i => s.reportChange (old.get i) (new.get i) (3 * (k - 1) + i) k) s
  if lost ∧ ¬was then s.reportMeas .sourceActive none (some k)
  else if was ∧ ¬lost then s.reportMeas .sourceEnded none (some k)
  else s

/-- Gauge `g` at the deadline (R24, R25). -/
def State.measureGauge (s : State) (g : Nat) : State :=
  let c := s.force.gauges.get g
  let old := s.gauges.get g
  let new := old.gaugeDeadline c.scale c.divider.toNat s.tb.cycle
  ({ s with gauges := s.gauges.set g new }).reportChange old new (20 + g) g

/-- Every channel's quantity of the cycle is produced (R19). -/
def State.measure (s : State) : State := [1, 2, 3].foldl State.measureGauge (s.forStands s.force.n State.measureStand)

/-- The active measurement lost sources of the cycle in stand order, each with whether it became active (R22, R123). -/
def State.lostSources (before s : State) : List (Source × Bool) :=
  ((standsTo s.liveN).filter (fun k => (s.stand k).lostSrc)).map (fun k =>
    (⟨.measurementLost, some k, none⟩, !(before.stand k).lostSrc))

/-- A sample word that arrives on a line: kept as the word of the cycle when its check passes, its channel is in use, the
deadline has not passed, and, for a gauge, the cycle is a sample cycle (R16, R17, R24). -/
def State.takeWord (s : State) (line : Nat) (w : SampleWord) : State :=
  if s.tb.deadlineDone then s
  else if line < 21 then
    let k := chanStand line
    if k ≤ s.force.n then
      s.mapStand k (fun st =>
        { st with chans :=
            if line % 3 = 0 then { st.chans with gap := { st.chans.gap with word := some w } }
            else if line % 3 = 1 then { st.chans with force := { st.chans.force with word := some w } }
            else { st.chans with speed := { st.chans.speed with word := some w } } })
    else s
  else if line < 24 ∧ sampleCycle (s.force.gauges.get (line - 20)).divider.toNat s.tb.cycle then
    { s with gauges := s.gauges.set (line - 20) { s.gauges.get (line - 20) with word := some w } }
  else s

/-- The words of the ended cycle are gone. -/
def State.clearWords (s : State) : State :=
  let clear (c : Chan) : Chan := { c with word := none }
  { s with
    gauges := s.gauges.mapIdx (fun _ c => clear c)
    stands := s.stands.mapIdx (fun _ st =>
      { st with chans := ⟨clear st.chans.gap, clear st.chans.force, clear st.chans.speed⟩ }) }

/-! ### Emergency stops (R28, R29) -/

/-- An input sampled at a strobe (R28). -/
def Estop.sampled (e : Estop) (high : Bool) : Estop :=
  if high = !e.active then { e with level := high, run := 0 }
  else if 1 ≤ e.run then ⟨!e.active, high, 0⟩
  else { e with level := high, run := 1 }

/-- The four inputs are sampled, and each change of state is reported (R28, R29). -/
def State.sampleEstops (s : State) (es : BitVec 4) : State :=
  let old := s.estops
  let new := old.mapIdx (fun i e => e.sampled (es.getLsbD i))
  [0, 1, 2, 3].foldl (fun s i =>
    if (old.get i).active = (new.get i).active then s
    else s.reportMeas (if (new.get i).active then .estopActive else .estopInactive) (some i) none)
    { s with estops := new }

/-- The active emergency-stop sources of the cycle, each with whether it became active (R29, R123). -/
def State.estopSources (before s : State) : List (Source × Bool) :=
  ([0, 1, 2, 3].filter (fun i => (s.estops.get i).active)).map (fun i =>
    (⟨Kind.ofLine i, some i, none⟩, !(before.estops.get i).active))

end Sys2Proof.Machine
end

