-- ==== Sys2Proof/Machine/Gauge.lean ====
section
/-!
DEFINITION. The gauge control computation, stage by stage, and the monitor offset (chapter 5).
-/

namespace Sys2Proof.Machine

/-! ### Stretch and the estimate -/

/-- Interpolation along one interval of a curve, the quotient truncated toward zero (R89). -/
def alongInterval (a b : Int × Int) (f : Int) : Int := a.2 + Int.tdiv ((f - a.1) * (b.2 - a.2)) (b.1 - a.1)

/-- The stretch past the first point: the interval that holds the force, or the last one extended (R89). -/
def stretchFrom (a : Int × Int) : List (Int × Int) → Int → Int
  | [], _ => a.2
  | [b], f => alongInterval a b f
  | b :: c :: rest, f => if f ≤ b.1 then alongInterval a b f else stretchFrom b (c :: rest) f

/-- The stretch at a force, clamped to 0 to 20,000 (R89). A stand whose estimate is computed has a curve (R88), so the
empty list is not met (log 27). -/
def stretch (points : List (Int × Int)) (f : Int) : Int :=
  clampTo 0 20000 (match points with
    | [] => 0
    | a :: rest => if f ≤ a.1 then a.2 else stretchFrom a rest f)

/-- The points of an optional working curve. -/
def curveOf (c : Option Curve) : List (Int × Int) :=
  match c with
  | some x => x.points
  | none => []

/-- The thickness estimate from gap, zero and stretch, clamped to 0 to 65,535 (R90). -/
def estimate (gap zero e : Int) : Int := clampTo 0 65535 (gap - zero + e)

/-! ### Error, integrator, correction, reference -/

/-- The raw error: the reference less the estimate with the monitor offset of the cycle before (R91). -/
def rawError (hRef hEst monitor : Int) : Int := hRef - (hEst + monitor)

/-- The raw error with its magnitude cut down to a multiple of 2^q (R92). -/
def quantize (e : Int) (q : Nat) : Int := Int.tdiv e (2 ^ q) * 2 ^ q

/-- The marks of a value held within −lo to +hi: above, below (R93, R98). -/
def limitMarks (lo hi v : Int) : Bool × Bool := (decide (hi < v), decide (v < -lo))

/-- The integrator is held by the previous cycle's output marks and the sign of the error (R94). -/
def windupHeld (windup : Bool) (prev : Marks) (e : Int) : Bool :=
  windup && ((prev.outHigh && decide (0 < e)) || (prev.outLow && decide (e < 0)))

/-- The accumulator of the cycle: integrated or held, then clamped to ±I_lim × 256 (R94). -/
def integrate (acc e ki : Int) (shift : Nat) (iLim : Int) (held : Bool) : Int :=
  clampTo (-(iLim * 256)) (iLim * 256) (if held then acc else acc + Int.tdiv (e * ki) (2 ^ shift))

/-- The proportional term (R97). -/
def proportional (e kp : Int) (shift : Nat) : Int := Int.tdiv (e * kp) (2 ^ shift)

/-- The reference limited to one slew of the previous one, with the output marks high and low; a RELEASED previous
reference sets no limit (R99). -/
def slewStage (prev : Option Int) (demand slew : Int) : Int × Bool × Bool :=
  match prev with
  | none => (demand, false, false)
  | some p =>
    if p + slew < demand then (p + slew, true, false)
    else if demand < p - slew then (p - slew, false, true)
    else (demand, false, false)

/-- The full computation of a cycle in THREADING or ROLLING with the fields in force: the quantities, the accumulator and
the clamp status (R91 to R99). -/
def controlStages (threading : Bool) (x : StandSched) (ctx : Ctx) (hEst : Int) (prevGap : Option Int) (sMin sMax : Int)
    (acc : Int) (prev : Marks) : Quantities × Int × Marks :=
  let eRaw := rawError x.hRef hEst ctx.monitor
  let eq := quantize eRaw x.q.toNat
  let eNeg := if threading then x.eNegSt else x.eNeg
  let ePos := if threading then x.ePosSt else x.ePos
  let e := clampTo (-eNeg) ePos eq
  let acc' := integrate acc e x.ki x.kiShift.toNat x.iLim (windupHeld x.windup prev e)
  let i := Int.tdiv acc' 256
  let c := proportional e x.kp x.kpShift.toNat + i
  let d := Int.tdiv (c * x.g) 256
  let dS := clampTo (-x.lo) x.hi d
  let demand := ctx.zero + x.sBase + dS
  let slewed := slewStage prevGap demand (if threading then x.startSlew else x.rollSlew)
  let sRef := clampTo sMin sMax slewed.1
  ({ hEst := some hEst, eRaw := some eRaw, e := some e, i := some i, c := some c, dS := some dS, sRef := some sRef },
   acc',
   { errHigh := (limitMarks eNeg ePos eq).1, errLow := (limitMarks eNeg ePos eq).2
     outHigh := (limitMarks x.lo x.hi d).1 || slewed.2.1 || decide (sMax < slewed.1)
     outLow := (limitMarks x.lo x.hi d).2 || slewed.2.2 || decide (slewed.1 < sMin) })

/-- The GCU record with the quantities of a cycle produced, those before kept beside them (R5, R86). -/
def Gcu.produce (g : Gcu) (q : Quantities) : Gcu := { g with qPrev := g.q, q := q }

/-- The computation of a cycle for one stand, by its state for the cycle (R86, R87). A served bar is always in the list
(R54), so a stand in THREADING or ROLLING without its fields is not met (log 27). -/
def Gcu.compute (g : Gcu) (ctx : Ctx) (gap force : Int) (sc : StandRec) : Gcu :=
  let hEst := estimate gap ctx.zero (stretch (curveOf ctx.curve) force)
  let alone : Quantities := { Quantities.absent with hEst := some hEst }
  let full (threading : Bool) : Gcu :=
    match ctx.sched with
    | none => g.produce alone
    | some x =>
      let r := controlStages threading (x.tuned g.live) ctx hEst sc.prevGap sc.sMin sc.sMax g.iacc g.prevClamp
      { g.produce r.1 with iacc := r.2.1, clamp := r.2.2 }
  match ctx.state with
  | .positioning | .ready | .tailout => g.produce alone
  | .threading => full true
  | .rolling => full false
  | .parked | .calibrating | .tripped => g.produce .absent

/-- The gauge control computation of the cycle for stand `k` (R86). -/
def State.computeGauge (k : Nat) (s : State) : State :=
  s.mapStand k (fun st =>
    { st with gcu := st.gcu.compute st.ctx st.chans.gap.value st.chans.force.value st.sc })

/-! ### The accumulator and the overrides at a strobe (R95, R106) -/

/-- I_lim in force: the live override's, else the served copy's, else 0 (R95). -/
def State.iLimOf (s : State) (k : Nat) : Int :=
  match (s.stand k).gcu.live.iLim with
  | some v => v
  | none => ((s.servedSched k).map StandSched.iLim).getD 0

/-- At a strobe a pending override replaces the live one whole (R106). -/
def Gcu.goLive (g : Gcu) : Gcu :=
  match g.pendingTune with
  | some t => { g with live := t, pendingTune := none }
  | none => g

/-- At a strobe, the override goes live and the accumulator and the monitor offset are clamped to the limits in force
(R95, R103, R106). -/
def State.settleGauge (k : Nat) (s : State) : State :=
  let s := s.mapGcu k Gcu.goLive
  let lim := s.iLimOf k * 256
  let m := (s.force.stands.get k).mLimit
  s.mapGcu k (fun g => { g with iacc := clampTo (-lim) lim g.iacc, monitor := clampTo (-m) m g.monitor })

/-! ### The monitor offset (R101) -/

/-- The offset after one monitor update, clamped to ±M_limit (R101). -/
def monitorStep (m d mg limit : Int) : Int := clampTo (-limit) limit (m + Int.tdiv ((d - m) * mg) 256)

/-- A monitor update handed over for stand `k` from a segment of a bar (R101, R102). -/
def State.monitorUpdate (s : State) (k : Nat) (measured recorded : Int) (bar : Nat) : State :=
  let mg := ((s.stand k).gcu.live.mg).getD (((s.barSched bar k).map StandSched.mg).getD 0)
  s.mapGcu k (fun g =>
    { g with monitor := monitorStep g.monitor (measured - recorded) mg (s.force.stands.get k).mLimit })

end Sys2Proof.Machine
end

