-- ==== Sys2Proof/Machine/Cascade.lean ====
section
/-!
DEFINITION. The speed cascade: modes, local ratios, trims, speed demands and speed references (chapter 6).
-/

namespace Sys2Proof.Machine

/-- The stand is THREADING or ROLLING for the cycle. -/
def Ctx.inCascade (c : Ctx) : Bool := decide (c.state = .threading ∨ c.state = .rolling)

/-- The mode in force of the cycle (R111). -/
def Ctx.mode (c : Ctx) : Option Mode := if c.inCascade then c.sched.map StandSched.mode else none

/-- The local ratio: the correction as a fraction of the thickness reference, in ppm, truncated toward zero (R112). -/
def localRatio (c hRef : Int) : Int := Int.tdiv (c * 1000000) hRef

/-- The local ratio of the cycle, absent outside THREADING and ROLLING (R112). -/
def Stand.ratio (st : Stand) : Option Int :=
  if st.ctx.inCascade then
    match st.gcu.q.c, st.ctx.sched with
    | some c, some x => some (localRatio c x.hRef)
    | _, _ => none
  else none

/-- Stand `k`'s ratio is carried to stand `j`: downstream of it, on the same bar, SUCCESSIVE, or SINGLE next to it (R113). -/
def carried (j k : Nat) (mine other : Ctx) : Bool :=
  decide (j < k) && other.inCascade && decide (mine.served.isSome ∧ other.served = mine.served)
    && (decide (other.mode = some .successive) || (decide (other.mode = some .single) && decide (k = j + 1)))

/-- The sum of the ratios carried to stand `j`, before any clamp (R113). -/
def State.trimSum (s : State) (j : Nat) : Int :=
  ((standsTo s.force.n).map (fun k =>
    if carried j k (s.stand j).ctx (s.stand k).ctx then ((s.stand k).ratio).getD 0 else 0)).sum

/-- The speed demand: the scheduled speed with its trim (R115). -/
def speedDemand (vSched trim : Int) : Int := Int.tdiv (vSched * (1000000 + trim)) 1000000

/-- The SCU record of the cycle outside the cascade, with a speed reference and its slew mark (R117 to R119). -/
def Scu.outside (u : Scu) (ref : Option Int) (slewed : Bool) : Scu :=
  { u with mode := none, ratio := none, trim := none, demand := none, slewLimited := slewed, speedRef := ref }

/-- The reference approached by at most one slew, and whether the slew limited it (R116, R117). -/
def approach (prev target slew : Int) : Int × Bool :=
  (slewToward prev target slew, decide (prev + slew < target) || decide (target < prev - slew))

/-- The speed reference of the cycle by the state for the cycle (R111 to R119). A stand that positions has a target, and
one in the cascade a bar and a driven reference, so the remaining cases are not met (log 27). DESIGN CHOICE, log 38: a stand armed
in the cycle in which it was parked slews on from its driven previous reference. Unsafe. -/
def Scu.compute (u : Scu) (ctx : Ctx) (conf : StandConf) (held : Int) (ratio : Option Int) (sum : Int) : Scu :=
  let slew := conf.speedSlew
  let positioning : Scu :=
    match u.prevSpeed, ctx.target with
    | none, _ => u.outside (some (clampTo 0 25000 (ctx.startSpeed.getD held))) false
    | some p, some x => u.outside (some (approach p x.vSched slew).1) (approach p x.vSched slew).2
    | some p, none => u.outside (some p) false
  let cascade : Scu :=
    match ctx.sched with
    | none => u.outside u.prevSpeed false
    | some x =>
      let trim := clampTo (-conf.tLimit) conf.tLimit sum
      let demand := speedDemand x.vSched trim
      let moved := approach (u.prevSpeed.getD demand) demand slew
      { u with
        mode := some x.mode, ratio := ratio, trim := some trim, trimHigh := decide (conf.tLimit < sum)
        trimLow := decide (sum < -conf.tLimit), demand := some demand, slewLimited := moved.2
        rangeLimited := decide (moved.1 < 0) || decide (25000 < moved.1)
        speedRef := some (clampTo 0 25000 moved.1) }
  match ctx.state with
  | .positioning | .ready => positioning
  | .threading | .rolling => cascade
  | .tailout => u.outside u.prevSpeed false
  | .parked | .calibrating => u.outside none false
  | .tripped =>
    match ctx.action with
    | .release => u.outside none false
    | .opening => u.outside (u.prevSpeed.map (fun p => max 0 (p - conf.speedRamp))) false
    | _ => u.outside u.prevSpeed false

/-- The SCU record at a strobe: the previous speed reference taken, the marks cleared (R110). -/
def Scu.strobe (u : Scu) : Scu :=
  { u with prevSpeed := u.speedRef, trimHigh := false, trimLow := false, slewLimited := false, rangeLimited := false }

/-- The cascade of the cycle: every stand's ratio, trim and speed reference from the corrections of the cycle (R113). -/
def State.computeCascade (s : State) : State :=
  { s with stands := s.stands.mapIdx (fun k st =>
      if k ≤ s.force.n then
        { st with scu := st.scu.compute st.ctx (s.force.stands.get k) st.chans.speed.value st.ratio (s.trimSum k) }
      else st) }

end Sys2Proof.Machine
end

