-- ==== Sys2Proof/Machine/Calibration.lean ====
section
/-!
DEFINITION. Zero calibration: the reference law of its phases, the tests at the deadline, and its end (chapter 8).
-/

namespace Sys2Proof.Machine

/-- The gap reference of a CALIBRATING cycle: the start gap in the first, then by the phase for the cycle (R144 to R146).
DESIGN CHOICE, log 38: the start gap is taken without slew also where no RELEASED cycle lies between, whatever parked the driven stand in
the cycle of the ZERO CAL: a request, the end of a calibration at the deadline, or another transition. Unsafe. -/
def calibrationRef (ctx : Ctx) (c : Cal) (prev : Option Int) (sMin escapeSlew : Int) : Option Int :=
  match ctx.start with
  | some g => some g
  | none =>
    match ctx.phase with
    | .closing => prev.map (fun p => max sMin (p - c.closeRate))
    | .holding => c.kissRef
    | .opening => prev.map (fun p => min c.startGap (p + escapeSlew))
    | .nothing => prev

/-- The steady band of HOLDING: nine tenths to twelve tenths of the kiss force, each truncated (R145). -/
def steadyBand (kiss : Int) : Int × Int := (Int.tdiv (kiss * 9) 10, Int.tdiv (kiss * 12) 10)

/-- The averages and the candidate zero after 64 HOLDING cycles (R145). -/
def Cal.average (c : Cal) (points : List (Int × Int)) : Cal :=
  let sAvg := Int.tdiv c.sumS 64
  let fAvg := Int.tdiv c.sumF 64
  let cand := sAvg + stretch points fAvg
  { c with sAvg := some sAvg, fAvg := some fAvg, candidate := some cand, phase := .opening
           result := if -5000 ≤ cand ∧ cand ≤ 10000 then c.result else .zeroRange }

/-- One HOLDING cycle: an unsteady force opens, a steady one is summed, and the 64th ends the phase (R145). -/
def Cal.hold (c : Cal) (gap force : Int) (points : List (Int × Int)) : Cal :=
  let band := steadyBand c.kissForce
  if force < band.1 ∨ band.2 < force then { c with result := .unsteady, phase := .opening }
  else
    let c := { c with sumS := c.sumS + gap, sumF := c.sumF + force, holdCount := c.holdCount + 1 }
    if 64 ≤ c.holdCount then c.average points else c

/-- The kiss test of a CLOSING cycle on its force and its gap reference (R144). -/
def Cal.close (c : Cal) (force : Int) (ref : Option Int) (sMin : Int) : Cal :=
  if c.kissForce ≤ force then { c with kissRef := ref, phase := .holding }
  else if ref = some sMin then { c with result := .noKiss, phase := .opening }
  else c

/-- A LOST gap or force channel in CLOSING or HOLDING (R148). -/
def Cal.lost (c : Cal) : Cal := { c with result := .measurementLost, phase := .opening }

/-- The end of a calibration: the stand is parked, the phase is none, the candidate takes effect when the result is OK,
and CAL DONE follows STAND STATE (R146). -/
def State.endCalibration (s : State) (k : Nat) : State :=
  let s := s.park k .calibration
  let s := s.mapStand k (fun st =>
    { st with
      cal := { st.cal with phase := .nothing }
      gcu := if st.cal.result = .ok then
          { st.gcu with zero := st.cal.candidate.getD st.gcu.zero, zeroKnown := true }
        else st.gcu })
  s.report .calDone (s.calDoneFields k)

/-- The calibration tests of stand `k` at the deadline, made when neither a request nor a latch has moved the stand or
its phase since the strobe (R144 to R149). DESIGN CHOICE, log 46: an abort taken before the deadline leaves the hold and lost
tests of its cycle unmade as it does the kiss test. Unsafe. -/
def State.testCalibration (k : Nat) (s : State) : State :=
  let st := s.stand k
  if st.ctx.state = .calibrating ∧ st.sc.state = .calibrating ∧ st.cal.phase = st.ctx.phase then
    let lost := decide (st.chans.gap.status = .lost) || decide (st.chans.force.status = .lost)
    match st.ctx.phase with
    | .closing =>
      s.mapCal k (fun c => if lost then c.lost else c.close st.chans.force.value st.sc.gapRef st.sc.sMin)
    | .holding =>
      s.mapCal k (fun c =>
        if lost then c.lost else c.hold st.chans.gap.value st.chans.force.value (curveOf st.gcu.curve))
    | .opening => if st.sc.gapRef = some st.cal.startGap then s.endCalibration k else s
    | .nothing => s
  else s

end Sys2Proof.Machine
end

