-- ==== Sys2Proof/Machine/Stands.lean ====
section
/-!
DEFINITION. The stand controllers' work of a cycle: load detection, follow error, the gap reference of each state, and the
tests on the cycle's quantities (chapter 3).
-/

namespace Sys2Proof.Machine

/-! ### Load detection (R34, R47, R48, R49) -/

/-- What a cycle's force makes of a stand's load: nothing, a load-on or a load-off. -/
inductive LoadEvent where
  | nothing
  | on
  | off
  deriving DecidableEq, Repr

/-- The load flag and its runs after a cycle's force, and the load change it makes (R34, R47). -/
def StandRec.load (r : StandRec) (force fOn fOff : Int) : StandRec × LoadEvent :=
  if ¬r.loadKnown then ({ r with loadKnown := true, loaded := decide (fOn ≤ force) }, .nothing)
  else if r.loaded then
    if force < fOff then
      if 2 ≤ r.loadOffRun then ({ r with loaded := false, loadOnRun := 0, loadOffRun := 0 }, .off)
      else ({ r with loadOffRun := r.loadOffRun + 1 }, .nothing)
    else ({ r with loadOffRun := 0 }, .nothing)
  else if fOn ≤ force then
    if 1 ≤ r.loadOnRun then ({ r with loaded := true, loadOnRun := 0, loadOffRun := 0 }, .on)
    else ({ r with loadOnRun := r.loadOnRun + 1 }, .nothing)
  else ({ r with loadOnRun := 0 }, .nothing)

/-- Stand `k`'s force test; a change that its state presents to the tracker is held there until the update (R47 to R49,
R63). It is made for every stand in force for the cycle: the load flag of the cycle does not change because of a request of the cycle
that removed the stand (R6, R45, R187). -/
def State.testLoad (k : Nat) (s : State) : State :=
  let st := s.stand k
  if st.chans.force.status = .lost then s
  else
    let c := s.force.stands.get k
    let r := st.sc.load st.chans.force.value c.fOn c.fOff
    let s := s.mapSc k (fun _ => r.1)
    let held (on : Bool) : State := s.mapTrack (fun t => { t with held := t.held ++ [⟨k, on⟩] })
    match r.2, st.sc.state with
    | .on, .ready => held true
    | .off, .threading => held false
    | .off, .rolling => held false
    | _, _ => s

/-- Stand `k`'s force of the cycle made a load-on in a state that is not ready for it (R48); `before` is the state before
the load tests. -/
def State.unready (before s : State) (k : Nat) : Bool :=
  (s.stand k).sc.loaded && !(before.stand k).sc.loaded && (before.stand k).sc.loadKnown
    && decide ((before.stand k).sc.state ∈ [.positioning, .threading, .rolling, .tailout])

/-! ### Runs of errors (R55, R56) -/

/-- A run after a cycle, and whether its source is presented with this cycle: when the run reaches its limit, and once until
a cycle returns it to 0 (R55, R56). DESIGN CHOICE, log 35: a limit lowered to or below a run whose source has not been
presented is reached by the next cycle of error. Unsafe. -/
def errorRun (bad : Bool) (run : ErrorRun) (limit : Nat) : ErrorRun × Bool :=
  if bad then
    let reached := decide (limit ≤ run.count + 1)
    (⟨countTo limit run.count, run.shown || reached⟩, reached && !run.shown)
  else (.zero, false)

/-- Stand `k`'s follow run after the cycle, and whether follow error is presented (R55). -/
def State.followTest (s : State) (k : Nat) : ErrorRun × Bool :=
  let st := s.stand k
  let c := s.force.stands.get k
  match st.sc.prevGap with
  | none => (.zero, false)
  | some p =>
    if st.chans.gap.status = .lost then (.zero, false)
    else errorRun (decide (c.followLimit < |st.chans.gap.value - p|)) st.sc.followRun c.nFollow.toNat

/-- The follow error test of stand `k`, made outside TRIPPED (R55). -/
def State.testFollow (k : Nat) (s : State) : State :=
  let st := s.stand k
  if st.ctx.state = .tripped ∨ st.sc.state = .tripped then s
  else s.mapSc k (fun r => { r with followRun := (s.followTest k).1 })

/-- Stand `k` presents follow error (R55); `before` is the state before the follow tests. -/
def State.followError (before : State) (k : Nat) : Bool :=
  decide ((before.stand k).ctx.state ≠ .tripped ∧ (before.stand k).sc.state ≠ .tripped) && (before.followTest k).2

/-- Stand `k`'s runaway run after the cycle, and whether runaway is presented (R56). -/
def State.runawayTest (s : State) (k : Nat) : ErrorRun × Bool :=
  let st := s.stand k
  let c := s.force.stands.get k
  match st.gcu.q.eRaw with
  | none => (st.sc.runawayRun, false)
  | some e => errorRun (decide (c.runawayLimit < |e|)) st.sc.runawayRun c.nRun.toNat

/-- The runaway test is made: the cycle is one of ROLLING and no latch has come (R56). -/
def State.runsAway (s : State) (k : Nat) : Bool :=
  decide ((s.stand k).ctx.state = .rolling ∧ (s.stand k).sc.state ≠ .tripped)

/-- The runaway test of stand `k` (R56). -/
def State.testRunaway (k : Nat) (s : State) : State :=
  if s.runsAway k then s.mapSc k (fun r => { r with runawayRun := (s.runawayTest k).1 }) else s

/-! ### The gap reference (R36, R46, R128) -/

/-- The gap reference under a latched action (R128). -/
def trippedRef (action : Action) (prev : Option Int) (target slew : Int) : Option Int :=
  match action, prev with
  | .release, _ => none
  | _, none => none
  | .opening, some p => if target ≤ p then some p else some (min target (p + slew))
  | _, some p => some p

/-- The gap reference of POSITIONING and READY: the arming gap in the first cycle, then toward the target gap (R46). A
stand in these states has a target and a driven reference, so the remaining cases are not met (log 27). DESIGN CHOICE, log 38:
the arming gap is taken without slew also where no RELEASED cycle lies between, whatever parked the driven stand in the cycle of the ARM:
a request, the end of a calibration at the deadline, or another transition. Unsafe. -/
def positioningRef (ctx : Ctx) (live : Tune) (prev : Option Int) (sMin sMax : Int) : Option Int :=
  match ctx.start, prev, ctx.target with
  | some g, _, _ => some g
  | none, some p, some x => some (slewToward p (gapFor ctx.zero sMin sMax x) (live.rollSlew.getD x.rollSlew))
  | none, p, _ => p

/-- The gap reference by the law of the state for the cycle, clamped to the limits in force while driven (R36). -/
def Stand.formRef (st : Stand) (c : StandConf) : Option Int :=
  let sc := st.sc
  let law :=
    match st.ctx.state with
    | .parked => none
    | .calibrating => calibrationRef st.ctx st.cal sc.prevGap sc.sMin c.escapeSlew
    | .positioning | .ready => positioningRef st.ctx st.gcu.live sc.prevGap sc.sMin sc.sMax
    | .threading | .rolling => st.gcu.q.sRef
    | .tailout => sc.prevGap
    | .tripped => trippedRef st.ctx.action sc.prevGap (clampTo sc.sMin sc.sMax c.escapeGap) c.escapeSlew
  law.map (clampTo sc.sMin sc.sMax)

/-- Stand `k` forms its gap reference of the cycle; a cycle in which it is RELEASED brings a waiting change of the limits
into force (R36, R39). DESIGN CHOICE, log 52: it does so at the moment the RELEASED reference is formed, not at that cycle's strobe.
Unsafe. -/
def State.formGapRef (k : Nat) (s : State) : State :=
  let ref := (s.stand k).formRef (s.force.stands.get k)
  let c := s.conf.stands.get k
  s.mapSc k (fun r =>
    let r := { r with gapRef := ref, formed := some s.tb.cycle }
    if ref.isNone ∧ r.limWait then { r with sMin := c.sMin, sMax := c.sMax, limWait := false } else r)

/-! ### Positioning and threading (R46, R51, R52) -/

/-- The positioning test of stand `k` (R46). DESIGN CHOICE, log 39: the target gap is that of the target as it stands at the
deadline, also where it changed within the cycle. Unsafe. -/
def State.testPositioning (k : Nat) (s : State) : State :=
  let st := s.stand k
  if st.ctx.state = .positioning ∧ st.sc.state = .positioning then
    let counts : Bool := match s.targetGap k with
      | none => false
      | some g => decide (st.chans.gap.status ≠ .lost) && decide (st.sc.gapRef = some g) && s.withinTolerance k g
    if counts then
      let s := s.mapSc k (fun r => { r with posRun := countTo 8 r.posRun })
      if 8 ≤ st.sc.posRun + 1 then s.changeState k .ready .positioned else s
    else s.mapSc k (fun r => { r with posRun := 0 })
  else s

/-- The sign of an error. -/
def Sign.of (e : Int) : Sign := if e < 0 then .negative else if 0 < e then .positive else .nothing

/-- The THREADING exit test ends threading with this error (R51). -/
def StandRec.crossed (r : StandRec) (e : Int) : Bool :=
  decide (e = 0) || decide (r.firstSign ≠ .nothing ∧ Sign.of e ≠ r.firstSign)

/-- Stand `k` leaves THREADING for ROLLING (R51, R52). -/
def State.leaveThreading (s : State) (k : Nat) (why : Reason) : State :=
  (s.changeState k .rolling why).mapSc k (fun r => { r with firstSign := .nothing })

/-- The THREADING exit test of stand `k` and its timeout (R51, R52). -/
def State.testThreading (k : Nat) (s : State) : State :=
  let st := s.stand k
  if st.ctx.state = .threading ∧ st.sc.state = .threading then
    let r := st.sc
    let e := st.gcu.q.eRaw
    let unmasked := decide (r.nMask < (r.threadCount : Int))
    if unmasked && (e.map r.crossed).getD false then s.leaveThreading k .threadDone
    else
      let s := if unmasked ∧ r.firstSign = .nothing then
          s.mapSc k (fun r => { r with firstSign := (e.map Sign.of).getD .nothing })
        else s
      if r.threadLimit ≤ (r.threadCount : Int) then
        (s.leaveThreading k .threadTimeout).report .threadTimeout [(k : Int), natField r.served, optField e]
      else s
  else s

/-- A load-off of stand `k` is held for judgement (R35). -/
def State.offHeld (s : State) (k : Nat) : Bool := s.track.held.any (fun h => decide (h.stand = k) && !h.on)

/-- The sample deadline of the cycle: the measurements, the tests on force and gap, the gauge control computation, the
cascade, the references, the tests on what they gave, and then the sources of the cycle (R19, R35, R86, R123; the order
within the deadline is log 7's). -/
def State.deadline (s : State) : State :=
  let n := s.liveN
  let was := s
  let s := s.measure
  let lost := State.lostSources was s
  let preLoad := s
  let s := s.forStands s.force.n State.testLoad
  let unready := (standsTo n).filter (State.unready preLoad s)
  let preFollow := s
  let s := s.forStands n State.testFollow
  let follow := (standsTo n).filter preFollow.followError
  let s := s.forStands s.force.n State.computeGauge
  let s := s.computeCascade
  let s := s.forStands s.force.n State.formGapRef
  let s := s.forStands n State.testCalibration
  let s := s.forStands n State.testPositioning
  let s := s.forStands n (fun k s => if s.offHeld k then s else s.testThreading k)
  let away := (standsTo n).filter (fun k => s.runsAway k && (s.runawayTest k).2)
  let s := s.forStands n State.testRunaway
  let s := s.mapTb (fun t => { t with deadlineDone := true })
  let event (kind : Kind) (k : Nat) : Source × Bool := (⟨kind, some k, none⟩, false)
  s.applySources
    (lost ++ unready.map (event .unreadyStand) ++ follow.map (event .followError) ++ away.map (event .runaway))

end Sys2Proof.Machine
end

