-- ==== Sys2Proof/Machine/Track.lean ====
section
/-!
DEFINITION. The strip tracker: the update of a cycle in its five stages, births, the head and tail windows, gauges and
monitor hand-overs, and the judgement of load changes (chapter 4).
-/

namespace Sys2Proof.Machine

/-! ### Positions -/

/-- A configured length in µm. -/
def micro (mm : Int) : Int := mm * 1000

/-- The length of zone `k` in µm (R84). -/
def State.zoneLength (s : State) (k : Nat) : Int := micro (s.force.zones.get k)

/-- One position is upstream of another: a lower zone, or a smaller distance in the same zone (R59). -/
def upstream (a b : Nat × Int) : Bool := decide (a.1 < b.1) || (decide (a.1 = b.1) && decide (a.2 < b.2))

/-- A segment's position. -/
def Seg.pos (x : Seg) : Nat × Int := (x.zone, x.dist)

/-- The stand's state for the cycle (R35). -/
def State.cycleState (s : State) (k : Nat) : StandState := (s.stand k).ctx.state

/-- The estimate record of a segment that crosses the bite of stand `k` in this cycle (R60). -/
def State.estimateRecord (s : State) (x : Seg) (k : Nat) : Estimate :=
  { stand := k, thickness := (s.stand k).gcu.q.hEst, hRef := ((s.barSched x.bar k).map StandSched.hRef).getD 0
    startup := decide (x.kind = .head) || decide (s.cycleState k = .threading) }

/-- A segment with the estimate record of a crossing added (R60). -/
def State.crossed (s : State) (x : Seg) (k : Nat) : Seg := { x with ests := x.ests ++ [s.estimateRecord x k] }

/-- A segment closes up behind the one before it in the queue: in the same zone it is not ahead of it (R64). -/
def closeUp (before : Option Seg) (x : Seg) : Seg :=
  match before with
  | some p => if p.zone = x.zone ∧ p.dist < x.dist then { x with dist := p.dist } else x
  | none => x

/-- A function of the segment before it, as already moved, applied along the queue from the oldest. -/
def sweepFrom (f : Option Seg → Seg → Seg) : Option Seg → List Seg → List Seg
  | _, [] => []
  | p, x :: rest => f p x :: sweepFrom f (some (f p x)) rest

/-! ### Advance and crossing (R64, R65) -/

/-- The zone speed from a roll speed and a forward slip, in mm/s (R64). -/
def zoneSpeed (roll slip : Int) : Int := Int.tdiv (roll * (1000000 + slip)) 1000000

/-- The advance of a zone speed over a cycle length, in µm (R64). -/
def zoneAdvance (speed len : Int) : Int := Int.tdiv (speed * len) 1000

/-- A segment advanced by its zone; the head of a bar whose head was missed stands still (R64). -/
def State.advanceSeg (s : State) (x : Seg) : Seg :=
  let halted := decide (x.kind = .head) && ((s.track.bar? x.bar).any (fun b => b.missed.isSome))
  if halted then x
  else
    let slip := ((s.barSched x.bar x.zone).map StandSched.slip).getD 0
    { x with dist := x.dist + zoneAdvance (zoneSpeed (s.stand x.zone).chans.speed.value slip) s.tb.lastLen }

/-- The advance of the cycle, with the queue closed up from the oldest (R64). -/
def State.advance (s : State) : State :=
  s.mapTrack (fun t => { t with segs := sweepFrom closeUp none (t.segs.map s.advanceSeg) })

/-- A segment crosses into the next zone by distance: it is no HEAD, it has reached the zone's end, and its bar's head has
reached the stand there (R65). DESIGN CHOICE, log 45: a TAIL that has closed up at or beyond the zone's end behind an older bar's
segments waiting there crosses past them when its own bar's head has reached the stand, though R59 says that no segment lies upstream of
a younger one. Unsafe. -/
def State.crosses (s : State) (x : Seg) : Bool :=
  decide (x.kind ≠ .head) && decide (x.zone < s.force.n) && decide (s.zoneLength x.zone ≤ x.dist)
    && ((s.track.bar? x.bar).any (fun b => decide (x.zone + 1 ≤ b.furthest)))

/-- A segment at the crossing: moved into the next zone with an estimate record, and closed up there, or left (R65). -/
def State.crossSeg (s : State) (p : Option Seg) (x : Seg) : Seg :=
  if s.crosses x then
    closeUp p (s.crossed { x with zone := x.zone + 1, dist := x.dist - s.zoneLength x.zone } (x.zone + 1))
  else x

/-- The crossing of the cycle (R65). -/
def State.crossing (s : State) : State :=
  s.mapTrack (fun t => { t with segs := sweepFrom s.crossSeg none t.segs })

/-! ### Gauges (R78 to R80) -/

/-- The gauges that segments pass, in order along the train (R78). DESIGN CHOICE, log 44: of two at one position the lower number
comes first. Unsafe. -/
def State.placedGauges (s : State) : List Nat :=
  let pos (g : Nat) : Nat × Int := ((s.force.gauges.get g).zone.toNat, (s.force.gauges.get g).dist)
  let placed := [1, 2, 3].filter (fun g =>
    decide (1 ≤ (s.force.gauges.get g).zone ∧ (s.force.gauges.get g).zone ≤ s.force.standCount))
  placed.mergeSort (fun a b => !upstream (pos b) (pos a))

/-- A gauge's position. -/
def State.gaugePos (s : State) (g : Nat) : Nat × Int :=
  ((s.force.gauges.get g).zone.toNat, micro (s.force.gauges.get g).dist)

/-- A segment passes gauge `g` by a movement from a position to its present one (R79). -/
def State.passes (s : State) (old : Nat × Int) (x : Seg) (g : Nat) : Bool :=
  upstream old (s.gaugePos g) && !upstream x.pos (s.gaugePos g) && !x.reads.any (fun r => decide (r.gauge = g))

/-- The recorded estimate that a passing of bound gauge `g` hands over for its stand, when it does (R80). -/
def State.handOver (s : State) (x : Seg) (g : Nat) : Option Int :=
  let k := (s.gaugePos g).1
  if (s.force.gauges.get g).bound ≠ 0 ∧ s.cycleState k = .rolling then
    (x.ests.find? (fun e => e.stand = k)).bind (fun e => if e.startup then none else e.thickness)
  else none

/-- The segment at a place of the queue passes the gauges between its old and its new position, in order along the
train: readings are added and pairs handed over (R79, R80). -/
def State.passGauges (s : State) (seq : Nat) (old : Nat × Int) : State :=
  s.placedGauges.foldl (fun s g =>
    match s.track.segs.find? (fun x => x.seq = seq) with
    | none => s
    | some x =>
      let c := s.gauges.get g
      if s.passes old x g && c.usable (s.force.gauges.get g).divider.toNat s.tb.cycle then
        let s := s.mapTrack (fun t => { t with segs := t.segs.map (fun y =>
          if y.seq = seq then { y with reads := y.reads ++ [⟨g, c.value⟩] } else y) })
        match s.handOver x g with
        | some recorded => s.monitorUpdate (s.gaugePos g).1 c.value recorded x.bar
        | none => s
      else s) s

/-- Every segment passes the gauges it moved across since an earlier queue, oldest segment first (R79, R80). -/
def State.passAll (s : State) (before : List Seg) : State :=
  before.foldl (fun s x => s.passGauges x.seq x.pos) s

/-! ### Release (R54, R66) -/

/-- Stand `k` acts on the release of the bar it serves: TAILOUT ends; THREADING and ROLLING end with BAR RELEASED (R53,
R54). -/
def State.releaseStand (s : State) (k : Nat) (id : Nat) : State × List Source :=
  let sc := (s.stand k).sc
  let leave (why : Reason) (none_ : Reason) : State :=
    (if sc.target = .nothing then s.park k none_ else s.position k why).unserve k
  if sc.served ≠ some id then (s, [])
  else
    match sc.state with
    | .tailout => (leave .tailClear .noTarget, [])
    | .threading | .rolling =>
      (leave .barReleased .barReleased,
       if sc.loaded then [⟨.unexpectedLoad, some k, sc.target.barId⟩] else [])
    | .tripped => (s.unserve k, [])
    | _ => (s, [])

/-- A bar is removed by the release of its TAIL (R54, R61, R66). -/
def State.releaseBar (s : State) (b : Bar) : State × List Source :=
  (standsTo s.conf.n).foldl (fun p k =>
    let r := p.1.releaseStand k b.id
    (r.1, p.2 ++ r.2)) (s.removeBar b, [])

/-- The segment has reached the release point (R66). -/
def State.atRelease (s : State) (x : Seg) : Bool := decide (x.zone = s.force.n) && decide (micro s.force.release ≤ x.dist)

/-- The release of the cycle: segments in queue order, and the bars whose TAIL goes (R66). -/
def State.release (s : State) : State × List Source :=
  let gone := s.track.segs.filter s.atRelease
  let s := s.mapTrack (fun t => { t with segs := t.segs.filter (fun x => !s.atRelease x) })
  gone.foldl (fun p x =>
    if x.kind = .tail then
      match p.1.track.bar? x.bar with
      | some b =>
        let r := p.1.releaseBar b
        (r.1, p.2 ++ r.2)
      | none => p
    else p) (s, [])

/-! ### Births (R59, R69, R70) -/

/-- A bar's record changed. -/
def State.mapBar (s : State) (id : Nat) (f : Bar → Bar) : State :=
  s.mapTrack (fun t => { t with bars := t.bars.map (fun b => if b.id = id then f b else b) })

/-- A segment is born at the young end in zone 1, with its estimate record for stand 1 (R59, R60). -/
def State.birth (s : State) (bar : Nat) (kind : SegKind) (dist : Int) : State :=
  let x : Seg :=
    { seq := s.track.nextSeq, bar := bar, kind := kind, zone := 1, dist := dist, birth := s.tb.cycle, ests := [], reads := [] }
  s.mapTrack (fun t => { t with segs := t.segs ++ [s.crossed x 1], nextSeq := nextFromZero t.nextSeq })

/-- The queue has room for one more of its 256 segments (R59). -/
def Tracker.room (t : Tracker) : Bool := decide (t.segs.length < 256)

/-- The newest segment of a bar. -/
def Tracker.newest (t : Tracker) (id : Nat) : Option Seg := (t.segs.filter (fun x => x.bar = id)).getLast?

/-- The current bar: the newest in the list whose tail is not born (R69). -/
def Tracker.current (t : Tracker) : Option Bar := (t.bars.filter (fun b => !b.tailBorn)).getLast?

/-- The first deferral or full-queue tail of a bar sets its flag and sends TRACK FULL (R69, R70). -/
def State.trackFull (s : State) (b : Bar) : State :=
  if b.trackFull then s
  else (s.mapBar b.id (fun b => { b with trackFull := true })).report .trackFull [(b.id : Int), (s.track.segs.length : Int)]

/-- The BODY births of the cycle for the current bar (R69); each birth fills one of the 256 places, which bounds them. -/
def State.bodyBirths : Nat → State → State
  | 0, s => s
  | fuel + 1, s =>
    match s.track.current with
    | none => s
    | some b =>
      match s.track.newest b.id with
      | none => s
      | some x =>
        let pitch := micro (((s.barCopy b.id).map Sched.pitch).getD 0)
        if x.zone = 1 ∧ pitch ≤ x.dist then
          if s.track.room then
            State.bodyBirths fuel ((s.birth b.id .body (x.dist - pitch)).mapBar b.id (fun b => { b with deferred := false }))
          else (s.trackFull b).mapBar b.id (fun b => { b with deferred := true })
        else if b.deferred ∧ x.zone ≠ 1 ∧ s.track.room then
          State.bodyBirths fuel ((s.birth b.id .body 0).mapBar b.id (fun b => { b with deferred := false }))
        else s

/-! ### Reports of heads and tails (R82) -/

/-- HEAD AT STAND with its trigger (R67, R72, R82). DESIGN CHOICE, log 12: it has four fields also at a birth, where the correction is
absent. Unsafe. -/
def State.headAtStand (s : State) (k bar seq : Nat) (c : Option Int) : State :=
  (s.report .headAtStand [(k : Int), (bar : Int), (seq : Int), optField c]).trigger (.headAt k)

/-- TAIL AT STAND with its trigger (R70, R76, R77, R82). DESIGN CHOICE, log 12: at a tail birth it carries the place of the tail as born, no
segments dropped and in time. Unsafe. -/
def State.tailAtStand (s : State) (k bar seq : Nat) (old : Nat × Int) (dropped : Nat) (late : Bool) : State :=
  (s.report .tailAtStand
    [(k : Int), (bar : Int), (seq : Int), (old.1 : Int), old.2, (dropped : Int), boolField late]).trigger (.tailAt k)

/-- TAIL MISMATCH (R71, R77). -/
def State.tailMismatch (s : State) (k bar : Nat) (pos : Nat × Int) : State :=
  s.report .tailMismatch [(k : Int), (bar : Int), (pos.1 : Int), pos.2]

/-! ### Head missed and the TAILOUT end test (R53, R75) -/

/-- A head that has run beyond its window and was not yet declared missed (R75). -/
def State.runBeyond (s : State) (x : Seg) : Bool :=
  decide (x.kind = .head) && decide (x.zone < s.force.n)
    && decide (s.zoneLength x.zone + micro s.force.wHead < x.dist)
    && ((s.track.bar? x.bar).any (fun b => b.missed.isNone))

/-- Heads beyond their windows are declared missed, but for those whose stand has a load-on of the cycle still to be
judged; with the head missed sources (R75). -/
def State.declareMissed (s : State) : State × List Source :=
  let waiting (k : Nat) : Bool := s.track.held.any (fun h => decide (h.stand = k) && h.on)
  let missed := s.track.segs.filter (fun x => s.runBeyond x && !waiting (x.zone + 1))
  (missed.foldl (fun s x => s.mapBar x.bar (fun b => { b with missed := some (x.zone + 1) })) s,
   missed.map (fun x => ⟨.headMissed, some (x.zone + 1), some x.bar⟩))

/-- The TAILOUT end test is met: the served bar's TAIL is clear of stand `k`, or the bar has left the list (R53). -/
def State.tailClear (s : State) (k : Nat) : Bool :=
  match (s.stand k).sc.served with
  | none => true
  | some id =>
    !s.track.has id || s.track.segs.any (fun x =>
      decide (x.bar = id ∧ x.kind = .tail)
        && (decide (k < x.zone) || (decide (x.zone = k) && decide (micro s.force.clearance ≤ x.dist))))

/-- The TAILOUT end test of stand `k` (R53). -/
def State.testTailout (k : Nat) (s : State) : State :=
  let st := s.stand k
  if st.ctx.state = .tailout ∧ st.sc.state = .tailout ∧ s.tailClear k then
    (if st.sc.target = .nothing then s.park k .noTarget else s.position k .tailClear).unserve k
  else s

/-- Once the update is made and no load change is waiting, the TAILOUT end tests of the cycle are made (R35, R53). -/
def State.endTests (s : State) : State :=
  if s.tb.endTests ∨ ¬s.track.held.isEmpty then s
  else (s.forStands s.liveN State.testTailout).mapTb (fun t => { t with endTests := true })

/-- The tracker's update of the cycle: advance, crossing, gauge passing, release, births; then the heads missed, the
end tests and the sources (R63; the order of what follows the stages is log 8's). DESIGN CHOICE, log 40: the update is one step,
so no request falls between two of its monitor updates. Unsafe. -/
def State.trackerUpdate (s : State) : State :=
  let before := s.track.segs
  let s := s.advance.crossing.passAll before
  let r := s.release
  let s := State.bodyBirths 257 r.1
  let s := s.mapTb (fun t => { t with updateDone := true })
  let m := s.declareMissed
  m.1.endTests.applyEvents (r.2 ++ m.2)

/-! ### Load changes at stand 1 (R67, R68, R70, R71) -/

/-- The TAIL of a bar is given at stand 1: born there, or with a full queue made of the bar's newest segment (R70). -/
def State.giveTail (s : State) (b : Bar) : State × Seg :=
  if s.track.room then
    let s' := s.birth b.id .tail 0
    let x : Seg :=
      { seq := s.track.nextSeq, bar := b.id, kind := .tail, zone := 1, dist := 0, birth := s.tb.cycle, ests := [], reads := [] }
    (s'.mapBar b.id (fun b => { b with tailBorn := true, deferred := false }), x)
  else
    match s.track.newest b.id with
    | none => (s.mapBar b.id (fun b => { b with tailBorn := true, deferred := false }),
        { seq := s.track.nextSeq, bar := b.id, kind := .tail, zone := 1, dist := 0, birth := s.tb.cycle, ests := []
          reads := [] })
    | some x =>
      let s' := (s.trackFull b).mapTrack (fun t =>
        { t with segs := t.segs.map (fun y => if y.seq = x.seq then { y with kind := .tail } else y) })
      let s' := s'.mapBar b.id (fun b => { b with tailBorn := true, deferred := false })
      if x.kind = .head then
        ((s'.mapBar b.id (fun b => { b with furthest := s.force.n })).retarget s' false, x)
      else (s', x)

/-- The tail given at stand 1, with its TAIL AT STAND (R70). -/
def State.tailAtOne (s : State) (b : Bar) : State × Seg :=
  let r := s.giveTail b
  (r.1.tailAtStand 1 b.id r.2.seq r.2.pos 0 false, r.2)

/-- Stand `k` goes to THREADING serving a bar: counts and first sign cleared, the integrator zeroed, the mask and the
thread limit read from the bar's copy (R50, R96). DESIGN CHOICE, log 12: STAND STATE with LOAD ON carries the bar of the accepted
load-on, which the stand serves from there (R58). Unsafe. -/
def State.thread (s : State) (k bar : Nat) : State :=
  let x := s.barSched bar k
  let s := s.mapSc k (fun r => { r with served := some bar })
  (s.changeState k .threading .loadOn).mapStand k (fun st =>
    { st with
      sc := { st.sc with threadCount := 0, firstSign := .nothing, runawayRun := .zero
                         nMask := (x.map StandSched.nMask).getD 0, threadLimit := (x.map StandSched.threadLimit).getD 0 }
      gcu := { st.gcu with iacc := 0 } })

/-- A bar is created from the staged schedule and its HEAD is born; stand 1 threads it (R61, R67, R166). -/
def State.createBar (s : State) (x : Staged) : State :=
  let old := s
  let copy := if s.images.copy0.isNone then 0 else 1
  let id := s.track.nextBar
  let seq := s.track.nextSeq
  let bar : Bar :=
    { id := id, copy := copy, slot := x.slot, furthest := 1, missed := none, tailBorn := false, trackFull := false
      deferred := false }
  let images := s.images.setCopy copy (some ⟨x.sched, x.slot⟩)
  let s := { s with images := if x.rep then images else { images with staged := none } }
  let s := s.mapTrack (fun t => { t with bars := t.bars ++ [bar], nextBar := nextFromOne t.nextBar })
  let s := s.birth id .head 0
  let s := (s.thread 1 id).headAtStand 1 id seq none
  s.retarget old false

/-- The old bar whose tail is not born at a load-on of stand 1 is given its TAIL (R71). -/
def State.oldTail (s : State) : State :=
  match s.track.current with
  | some b =>
    let r := s.tailAtOne b
    r.1.tailMismatch 1 b.id r.2.pos
  | none => s

/-- A load-on at stand 1 in READY (R67, R68, R71). A READY stand 1 targets the staged schedule, so the empty buffer is not
met; it too creates no bar (log 27). -/
def State.headBirth (s : State) : State × List Source :=
  let s := s.oldTail
  match s.images.staged with
  | some x =>
    if s.track.bars.length < 2 ∧ s.track.room then (s.createBar x, []) else (s, [⟨.barOverflow, some 1, none⟩])
  | none => (s, [⟨.barOverflow, some 1, none⟩])

/-! ### The head window (R72 to R74) -/

/-- The head that a load-on at stand `k` of 2 to N would accept: the head of the targeted bar in the zone before the stand,
not missed, in the window, with no older segment in its zone (R72). -/
def State.headInWindow (s : State) (k : Nat) : Option (Bar × Seg) :=
  (s.stand k).sc.target.barId.bind (fun id =>
    (s.track.bar? id).bind (fun b =>
      (s.track.segs.find? (fun x => decide (x.bar = id ∧ x.kind = .head ∧ x.zone = k - 1))).bind (fun x =>
        let l := s.zoneLength (k - 1)
        let older := s.track.segs.takeWhile (fun y => decide (y.seq ≠ x.seq))
        if b.missed.isNone ∧ l - micro s.force.wEarly ≤ x.dist ∧ x.dist ≤ l + micro s.force.wHead
            ∧ older.all (fun y => decide (y.zone ≠ k - 1)) then some (b, x)
        else none)))

/-- The head snap: the head moves to the stand's bite, the rest of its bar in the zone is corrected and passes the gauges
it is moved across (R72, R73, R79). DESIGN CHOICE, log 45: segments of another bar stay also where the correction takes these
behind them. Unsafe. -/
def State.headSnap (s : State) (k : Nat) (x : Seg) : State :=
  let before := s.track.segs
  let c := s.zoneLength (k - 1) - x.dist
  let move (y : Seg) : Seg :=
    if y.seq = x.seq then s.crossed { y with zone := k, dist := 0 } k
    else if y.bar = x.bar ∧ y.zone = k - 1 then { y with dist := max 0 (y.dist + c) }
    else y
  (s.mapTrack (fun t => { t with segs := t.segs.map move })).passAll before

/-- A load-on at stand `k` above 1 in READY (R72, R74). -/
def State.headArrives (s : State) (k : Nat) : State × List Source :=
  match s.headInWindow k with
  | some (b, x) =>
    let old := s
    let c := s.zoneLength (k - 1) - x.dist
    let s := (s.headSnap k x).mapBar b.id (fun b => { b with furthest := k })
    let s := (s.thread k b.id).headAtStand k b.id x.seq (some c)
    (s.retarget old false, [])
  | none => (s, [⟨.unexpectedLoad, some k, (s.stand k).sc.target.barId⟩])

/-! ### The tail window (R76, R77) -/

/-- The outcomes of a load-off at a stand above 1 (R76, R77). -/
inductive TailJudgement where
  | inTime (tail : Seg)
  | late (tail : Seg)
  | refused
  deriving DecidableEq, Repr

/-- A load-off of stand `k` judged by where the TAIL of its bar lies (R76, R77). -/
def State.judgeTail (s : State) (k bar : Nat) : TailJudgement :=
  match s.track.segs.find? (fun x => decide (x.bar = bar ∧ x.kind = .tail)) with
  | none => .refused
  | some x =>
    let w := micro s.force.wTail
    if x.zone = k - 1 ∧ s.zoneLength (k - 1) - w ≤ x.dist then .inTime x
    else if x.zone = k ∧ x.dist ≤ w then .inTime x
    else if k ≤ x.zone then .late x
    else .refused

/-- The tail snap: the tail moves to the stand's bite and the segments of its bar still in the zone before are dropped;
with the number dropped (R76, R79). DESIGN CHOICE, log 45: a tail moved back to 0 in its zone moves alone, also where the TAIL of a younger
bar without a head lies in that zone, which is then downstream of it against R59. Unsafe. -/
def State.tailSnap (s : State) (k : Nat) (x : Seg) : State × Nat :=
  let ahead (y : Seg) : Bool := decide (y.bar = x.bar ∧ y.zone = k - 1 ∧ y.seq ≠ x.seq)
  let dropped := (s.track.segs.filter ahead).length
  let move (y : Seg) : Seg :=
    if y.seq = x.seq then
      let y' := { y with zone := k, dist := 0 }
      if x.zone = k - 1 then s.crossed y' k else y'
    else y
  let s' := s.mapTrack (fun t => { t with segs := (t.segs.filter (fun y => !ahead y)).map move })
  (s'.passGauges x.seq x.pos, dropped)

/-- A load-off at stand `k` in THREADING or ROLLING; the THREADING exit test is not made then, and the first sign stays as it
stood (R35, R49, R70, R76, R77). -/
def State.tailLeaves (s : State) (k : Nat) : State × List Source :=
  let out (s : State) : State := s.changeState k .tailout .tailOut
  match (s.stand k).sc.served with
  | none => (s, [⟨.loadLost, some k, none⟩])
  | some id =>
    if k = 1 then
      match s.track.bar? id with
      | some b => (out (s.tailAtOne b).1, [])
      | none => (s, [⟨.loadLost, some k, some id⟩])
    else
      match s.judgeTail k id with
      | .inTime x =>
        let r := s.tailSnap k x
        (out (r.1.tailAtStand k id x.seq x.pos r.2 false), [])
      | .late x => (out ((s.tailAtStand k id x.seq x.pos 0 true).tailMismatch k id x.pos), [])
      | .refused => (s, [⟨.loadLost, some k, some id⟩])

/-! ### Judgement (R48, R49, R63) -/

/-- The effect of a load change by the stand's state when it is judged (R48, R49). -/
def State.loadEffect (s : State) (h : LoadChange) : State × List Source :=
  match (s.stand h.stand).sc.state, h.on with
  | .ready, true => if h.stand = 1 then s.headBirth else s.headArrives h.stand
  | .positioning, true => (s, [⟨.unreadyStand, some h.stand, none⟩])
  | .threading, true => (s, [⟨.unreadyStand, some h.stand, none⟩])
  | .rolling, true => (s, [⟨.unreadyStand, some h.stand, none⟩])
  | .tailout, true => (s, [⟨.unreadyStand, some h.stand, none⟩])
  | .threading, false => s.tailLeaves h.stand
  | .rolling, false => s.tailLeaves h.stand
  | _, _ => (s, [])

/-- A held load change is judged: its effect, then, where it moved nothing, the THREADING exit test it kept waiting, then
the heads missed, the end tests, and the sources (R35, R63, R75; the order is log 8's). -/
def State.judgeHeld (s : State) (h : LoadChange) : State :=
  let s := s.mapTrack (fun t => { t with held := t.held.erase h })
  let r := s.loadEffect h
  let s := if h.on then r.1 else r.1.testThreading h.stand
  let m := s.declareMissed
  m.1.endTests.applyEvents (r.2 ++ m.2)

/-- The held load change of stand `k` is judged, once the update has been made (R63). -/
def State.judge (s : State) (k : Nat) : State :=
  if s.tb.updateDone then
    match s.track.held.find? (fun h => decide (h.stand = k)) with
    | some h => s.judgeHeld h
    | none => s
  else s

/-- Triggers received after the first `n` of the list reach the trace unit after the strobe that ends their cycle, and are
taken as triggers of the next (R171). -/
def Trace.lateFrom (t : Trace) (n : Nat) : Trace :=
  { t with triggers := t.triggers.take n ++ (t.triggers.drop n).map (fun x => { x with cycle := x.cycle + 1 }) }

/-- What the cycle has still to do when the next strobe strikes is done: the deadline (R4), the update, and the
judgements in the order in which the changes reached the tracker (log 5). Its triggers fall at the same moment as the strobe,
which the trace unit takes first; one that is to be taken before the strobe comes of a command given before it (R171, log 5). -/
def State.finishCycle (s : State) : State :=
  let received := s.trace.triggers.length
  let s := if s.tb.deadlineDone then s else s.deadline
  let s := if s.tb.updateDone then s else s.trackerUpdate
  ((s.track.held.map LoadChange.stand).foldl State.judge s).mapTrace (fun t => t.lateFrom received)

end Sys2Proof.Machine
end

