-- ==== Sys2Proof/Machine/StoreUnit.lean ====
section
/-!
DEFINITION. The table store's operations: their start, their steps and completions, the saves, the loads at a reset, and
the classification (sections 9.1 to 9.3, R151, R152, R168).
-/

namespace Sys2Proof.Machine

/-! ### Programming and read-back (R156 to R158) -/

/-- The read-back deviations that fall on entries `lo` to `hi` of a slot replace what was programmed there. -/
def Store.deviate (st : Store) (slot lo hi : Nat) (read : List (Nat × Entry)) : Store :=
  (read.filter (fun p => decide (lo ≤ p.1 ∧ p.1 ≤ hi))).foldl (fun st p => st.setEntry slot p.1 p.2) st

/-- Entries programmed from one on. -/
def Store.program (st : Store) (slot e : Nat) (xs : List Entry) : Store :=
  { st with cells := Memory.writeAll erasedEntry st.cells (cellAddress slot e) xs }

/-- The entries of a slot from one on. -/
def Store.entries (st : Store) (slot first n : Nat) : List Entry :=
  Memory.readAll erasedEntry st.cells (cellAddress slot first) n

/-- Every entry of the slot is erased. -/
def Store.erase (st : Store) (slot : Nat) : Store :=
  { st with cells := st.cells.filter (fun c => !decide (cellAddress slot 0 ≤ c.1 ∧ c.1 < cellAddress (slot + 1) 0)) }

/-- The four entries of a unit. -/
def quadList (d : Quad) : List Entry := [d.e0, d.e1, d.e2, d.e3]

/-- The results of STORE DONE (R154). DESIGN CHOICE, log 12: they are numbered OK 0, ERASE FAULT 1, WRITE FAULT 2, CLOSE FAULT 3.
Unsafe. -/
def OpStep.faultCode : OpStep → Int
  | .erase => 1
  | .write _ _ => 2
  | .close => 3

/-- The completion of one step with what its read-back showed: the store it leaves, and whether the result is OK (R156 to
R158). -/
def Store.complete (st : Store) (slot : Nat) (step : OpStep) (read : List (Nat × Entry)) : Store × Bool :=
  match step with
  | .erase =>
    let st := (st.erase slot).deviate slot 0 255 read
    let ok := (st.entries slot 0 256).all (fun x => decide (x = erasedEntry))
    (st.setSlot slot ⟨if ok then .blank else .damaged, 0, 0, false⟩, ok)
  | .write u data =>
    let st := (st.program slot (4 * u) (quadList data)).deviate slot (4 * u) (4 * u + 3) read
    let ok := decide (st.entries slot (4 * u) 4 = quadList data)
    let r := { st.slotRec slot with cursor := u + 1 }
    (st.setSlot slot (if ok then r else { r with state := .damaged }), ok)
  | .close =>
    let check := [erasedEntry, erasedEntry, erasedEntry, st.slotCrc slot]
    let st := (st.program slot 252 check).deviate slot 252 255 read
    let ok := decide (st.entries slot 252 4 = check)
    (st.setSlot slot { st.slotRec slot with state := if ok then .valid else .damaged }, ok)

/-- The effect of a write's start on its slot: OPEN at once, the unit marked (R157). -/
def Store.beginStep (st : Store) (slot : Nat) : OpStep → Store
  | .write u _ =>
    let r := st.slotRec slot
    st.setSlot slot { r with state := .opened, map := r.map ||| (1 <<< u) }
  | _ => st

/-- An operation starts: the store is busy and the mark names the slot (R154). -/
def Store.start (st : Store) (kind : OpKind) (slot : Nat) (step : OpStep) (rest : List OpStep) : Store :=
  { st.beginStep slot step with op := some ⟨kind, slot, step, rest⟩, mark := some slot }

/-- The unit of a step, where there is one. -/
def OpStep.unit : OpStep → Option Nat
  | .write u _ => some u
  | _ => none

/-- The store is idle again. -/
def Store.finish (st : Store) : Store := { st with op := none, mark := none }

/-- The step in flight of an operation of one of the kinds is completed: its outcome, and either the next step of a save
or the end of the operation with STORE DONE; the CRC goes with a close (R154, R158, R161). No effect while no such
operation is in flight (log 4). DESIGN CHOICE, log 12: STORE DONE has five fields for every operation, the CRC last, which a
close sends also with CLOSE FAULT. Unsafe. -/
def State.stepDone (s : State) (kinds : List OpKind) (read : List (Nat × Entry)) : State :=
  match s.store.op with
  | none => s
  | some op =>
    if op.kind ∈ kinds then
      let crc : Option Int := if op.kind = .close then some (uEntry (s.store.slotCrc op.slot)) else none
      let done := s.store.complete op.slot op.step read
      let st := if done.2 then done.1 else done.1.addFault
      match op.rest, done.2 with
      | next :: rest, true => { s with store := { st with op := none }.start op.kind op.slot next rest }
      | _, ok =>
        let unit : Option Nat := if op.kind = .write then op.step.unit else none
        ({ s with store := st.finish }).report .storeDone
          [op.kind.code, (op.slot : Int), natField unit, if ok then 0 else op.step.faultCode, optField crc]
    else s

/-! ### The saves (R151, R161) -/

/-- The steps of a save that writes consecutive entries from unit 0 on: an erase, the writes and a close. -/
def saveSteps (entries : List Entry) : Nat → List OpStep
  | n => (List.range n).map (fun u =>
      OpStep.write u ⟨entries.getD (4 * u) erasedEntry, entries.getD (4 * u + 1) erasedEntry,
        entries.getD (4 * u + 2) erasedEntry, entries.getD (4 * u + 3) erasedEntry⟩) ++ [.close]

/-- The eight entries that CAL SAVE writes: known zeros with their marks, other entries as the VALID slot held them (R151). -/
def State.calEntries (s : State) : List Entry :=
  let valid := decide ((s.store.slotRec 40).state = .valid)
  let one (k : Nat) : Entry × Bool :=
    let g := (s.stand k).gcu
    if g.zeroKnown then (toEntry g.zero, true)
    else if valid then (s.store.entry 40 (k - 1), (s.store.entry 40 7).getLsbD (k - 1))
    else (0, false)
  let all := [1, 2, 3, 4, 5, 6, 7].map one
  all.map Prod.fst ++ [all.zipIdx.foldl (fun m p => if p.1.2 then m ||| (1#16 <<< p.2) else m) 0#16]

/-- CAL SAVE's operation (R151, R161). -/
def State.startCalSave (s : State) : State :=
  s.mapStore (fun st => st.start .calSave 40 .erase (saveSteps s.calEntries 2))

/-- CONFIG SAVE's operation (R161). -/
def State.startConfigSave (s : State) : State :=
  s.mapStore (fun st => st.start .configSave 41 .erase (saveSteps s.conf.toSlot 57))

/-! ### Gates (R154, R155) -/

/-- The slot named by the operation in flight (R154). -/
def State.busySlot (s : State) (slot : Nat) : Bool := s.store.op.map StoreOp.slot == some slot

/-- The slot fails the IN_USE gate: a schedule slot that an image names, or a curve slot bound by a configured stand that
is neither PARKED nor TRIPPED (R155). -/
def State.inUse (s : State) (slot : Nat) : Bool :=
  if slot < 32 then s.images.names slot
  else (standsTo s.conf.n).any (fun k =>
    decide ((s.conf.stands.get k).curveSlot + 32 = (slot : Int))
      && decide ((s.stand k).sc.state ≠ .parked ∧ (s.stand k).sc.state ≠ .tripped))

/-! ### Loads at a reset (R152, R168) and classification (R160) -/

/-- The calibration slot is VALID and passes its check; a failed check is counted (R152, R164). An OPEN slot loads nothing
(DESIGN CHOICE, log 33). Unsafe. -/
def State.calLoad (s : State) : State × Bool :=
  if (s.store.slotRec 40).state = .valid then s.checkCopy 40 else (s, false)

/-- Stand `k`'s zero and known mark from the calibration slot, when it was loaded (R152). -/
def State.loadedZero (s : State) (loaded : Bool) (k : Nat) : Int × Bool :=
  if loaded then zeroOfSlot (s.store.entry 40) k else (0, false)

/-- The configuration that a reset loads: the slot's, when VALID and checked, else the defaults (R168). -/
def State.confLoad (s : State) : State × Conf :=
  if (s.store.slotRec 41).state = .valid then
    let r := s.checkCopy 41
    (r.1, if r.2 then (Conf.ofSlot (r.1.store.entry 41)).clamped.singleBinding else .default)
  else (s, .default)

/-- A data unit holds an entry other than 65,535. -/
def Store.unitWritten (st : Store) (slot u : Nat) : Bool :=
  (st.entries slot (4 * u) 4).any (fun x => decide (x ≠ erasedEntry))

/-- A slot's record from its contents (R160). DESIGN CHOICE, log 42: an OPEN slot whose CRC is 65,535, the value of its erased
entry 255, is VALID by the table. Unsafe. -/
def Store.classified (st : Store) (slot : Nat) : SlotRec :=
  let units := (List.range 63).filter (st.unitWritten slot)
  let state : SlotState :=
    if st.mark = some slot then .damaged
    else if (st.entries slot 0 256).all (fun x => decide (x = erasedEntry)) then .blank
    else if st.entries slot 252 3 = [erasedEntry, erasedEntry, erasedEntry] ∧ st.crcMatches slot then .valid
    else .damaged
  { state := state, map := units.foldl (fun m u => m ||| (1 <<< u)) 0
    cursor := (units.getLast?.map (· + 1)).getD 0, damage := false }

/-- Every slot classified, the mark cleared, the store idle, no fault counted (R153, R160). -/
def Store.classify (st : Store) : Store :=
  let st' := (List.range 42).foldl (fun acc n => acc.setSlot n (st.classified n)) st
  { st' with op := none, mark := none, faults := 0 }

/-- The entries that an operation cut off by a reset leaves with values that nothing fixes (R160, log 13). -/
def OpStep.touched : OpStep → List Nat
  | .erase => List.range 256
  | .write u _ => [4 * u, 4 * u + 1, 4 * u + 2, 4 * u + 3]
  | .close => [252, 253, 254, 255]

/-- A reset cuts off the operation in flight: the entries it was changing read a free value (log 13). -/
def State.cutStore (s : State) : State :=
  match s.store.op with
  | none => s
  | some op =>
    { s with
      store := op.step.touched.foldl (fun st e => st.setEntry op.slot e (Config.interruptedEntry s.fresh e)) s.store
      fresh := s.fresh + 1 }

end Sys2Proof.Machine
end

