-- ==== Sys2Proof/Machine/TraceUnit.lean ====
section
/-!
DEFINITION. The trace unit: the sample of a cycle, the settlement of a cycle by each channel's mode, arming and reading
(chapter 10).
-/

namespace Sys2Proof.Machine

/-- The quantity is one of a stand (R170). -/
def TraceQuantity.ofStand (q : TraceQuantity) : Bool := decide (q ≠ .gauge ∧ q ≠ .cycleLength)

/-- The sample of the cycle for a channel: absent in every cycle after one in which its stand left the configuration (R170). DEDUCED,
log 47: also where the stand has come back. Unsafe. -/
def State.traceSample (s : State) (c : TraceChan) : Int :=
  let i := c.index.getD 0
  let st := s.stand i
  let ofStand (v : Int) : Int := if 1 ≤ i ∧ i ≤ s.force.n ∧ c.presence ≠ .gone then v else absentMarker
  match c.quantity with
  | none => absentMarker
  | some .gap => ofStand st.chans.gap.value
  | some .force => ofStand st.chans.force.value
  | some .speed => ofStand st.chans.speed.value
  | some .hEst => ofStand (optField st.gcu.q.hEst)
  | some .eRaw => ofStand (optField st.gcu.q.eRaw)
  | some .integral => ofStand (optField st.gcu.q.i)
  | some .correction => ofStand (optField st.gcu.q.c)
  | some .clampStatus => ofStand st.gcu.clamp.code
  | some .sRef => ofStand (refField st.sc.gapRef)
  | some .vRef => ofStand (refField st.scu.speedRef)
  | some .trim => ofStand (optField st.scu.trim)
  | some .gauge => (s.gauges.get i).value
  | some .cycleLength => s.tb.lastLen

/-- The place after one, back to the base after the last of the region (R169). -/
def TraceChan.nextPlace (c : TraceChan) (p : Nat) : Nat := if c.base + c.length ≤ p + 1 then c.base else p + 1

/-- The cycle is a sample cycle of the channel (R171). -/
def TraceChan.sampleCycle (c : TraceChan) (n : Cycle) : Bool := decide ((n - c.phase).toNat % 2 ^ c.decimation = 0)

/-- A channel after it has written one sample (R169, R174). -/
def TraceChan.wrote (c : TraceChan) : TraceChan :=
  { c with wpos := c.wpos.map c.nextPlace, fill := min c.length (c.fill + 1) }

/-- The channel takes a trigger in cycle `n`: one it is set up for, or a REQUEST that names it (R177, R178). A BLOCK
channel with IMMEDIATE starts its next block at any cycle (R176, log 21). -/
def TraceChan.triggered (c : TraceChan) (ch : Nat) (n : Cycle) (ts : List Labelled) : Bool :=
  decide (c.trigger = .immediate) || ts.any (fun t =>
    decide (t.cycle = n) && (decide (t.channel = some ch) || (t.channel.isNone && decide (t.trigger = c.trigger))))

/-- The channel begins capture at cycle `n` (R174 to R176). -/
def TraceChan.begin (c : TraceChan) (n : Cycle) : TraceChan :=
  { c with
    flag := true, lastTrigger := some n, phase := n, state := .capturing
    firstTrigger := if c.mode = .block then c.firstTrigger.or (some n) else some n
    blocks := if c.mode = .block then countTo 16384 c.blocks else c.blocks }

/-- The channel after the settlement of cycle `n`, and whether it writes the sample, by its mode (R174 to R176). -/
def TraceChan.settle (c : TraceChan) (ch : Nat) (n : Cycle) (ts : List Labelled) : TraceChan × Bool :=
  let c := if c.state = .armed ∧ c.triggered ch n ts then c.begin n else c
  match c.mode with
  | .single =>
    if c.state = .capturing ∧ c.sampleCycle n then
      let c := c.wrote
      (if c.length ≤ c.fill then { c with state := .done } else c, true)
    else (c, false)
  | .ring =>
    if c.sampleCycle n then
      let c := c.wrote
      if c.state = .capturing then
        let c := { c with postTaken := c.postTaken + 1 }
        (if c.post ≤ c.postTaken then { c with state := .done } else c, true)
      else (c, true)
    else (c, false)
  | .block =>
    if c.state = .capturing ∧ c.sampleCycle n then
      let c := c.wrote
      if c.blocks * c.block ≤ c.fill then
        ({ c with state := if c.length < c.fill + c.block then .done else .armed }, true)
      else (c, true)
    else (c, false)

/-- The channel settles cycle `n`: it is ARMED or CAPTURING, and `n` is not the cycle before its arm cycle (R171, R173,
log 20). -/
def TraceChan.settles (c : TraceChan) (n : Cycle) : Bool :=
  decide (c.state = .armed ∨ c.state = .capturing) && !(c.armCycle.any (fun a => decide (n = a - 1)))

/-- TRACE DONE: channel, reason (STOPPED 0, COMPLETE 1), and the fields of R179. -/
def traceDoneFields (ch : Nat) (reason : Int) (c : TraceChan) : List Int :=
  [(ch : Int), reason, (c.fill : Int), boolField c.flag, optCycleField c.firstTrigger, optCycleField c.lastTrigger,
   (c.blocks : Int)]

/-- The state with a trace channel's record changed. -/
def State.setChan (s : State) (ch : Nat) (c : TraceChan) : State :=
  s.mapTrace (fun t => { t with chans := t.chans.set ch c })

/-- Channel `ch` settles the cycle that ends (R171). -/
def State.settleChan (s : State) (ch : Nat) : State :=
  let c := s.trace.chans.get ch
  let n := s.tb.cycle
  if c.settles n then
    let r := c.settle ch n s.trace.triggers
    let place := c.wpos
    let s' := s.setChan ch r.1
    let s' := match r.2, place with
      | true, some p => s'.mapTrace (fun t => { t with mem := Memory.write 0 t.mem p (s.traceSample c) })
      | _, _ => s'
    if r.1.state = .done then s'.report .traceDone (traceDoneFields ch 1 r.1) else s'
  else s

/-- The cycle in which a channel's stand left the configuration has been sampled (R170). -/
def TraceChan.pass (c : TraceChan) : TraceChan := if c.presence = .leaving then { c with presence := .gone } else c

/-- The settlement of the cycle that ends: every channel, then the triggers of the cycle are gone, and the stands that left in it
(R170, R171). -/
def State.settleTrace (s : State) : State :=
  let s := [0, 1, 2, 3, 4, 5, 6, 7].foldl State.settleChan s
  s.mapTrace (fun t =>
    { t with chans := t.chans.map TraceChan.pass, triggers := t.triggers.filter (fun x => decide (x.cycle ≠ s.tb.cycle)) })

/-- A channel armed during the cycle before `n`: samples discarded, arm cycle and phase `n`, and the state its trigger
gives (R173). -/
def TraceChan.arm (c : TraceChan) (n : Cycle) : TraceChan :=
  let c : TraceChan :=
    { c with
      fill := 0, postTaken := 0, blocks := 0, flag := false, firstTrigger := none, lastTrigger := none
      wpos := some c.base, armCycle := some n, phase := n, state := .armed }
  if c.trigger = .immediate then c.begin n else c

/-- The place of a channel's oldest sample (R175, R180). -/
def TraceChan.oldest (c : TraceChan) : Nat :=
  if c.mode = .ring ∧ c.fill = c.length then c.wpos.getD c.base else c.base

/-- The sample a number of places after the oldest held, going round the region (R180). -/
def Trace.sampleAt (t : Trace) (c : TraceChan) (i : Nat) : Int :=
  Memory.read 0 t.mem (c.base + (c.oldest - c.base + i) % c.length)

/-- The trace channel record's fields in the order of section 10.1. DESIGN CHOICE, log 12: the region is two fields, absent
without one, and the trigger two, its code and its stand. Unsafe. -/
def TraceChan.fields (c : TraceChan) : List Int :=
  [optField (c.quantity.map TraceQuantity.code), natField c.index,
   if c.length = 0 then absentMarker else (c.base : Int), if c.length = 0 then absentMarker else (c.length : Int),
   c.mode.code, (c.block : Int), (c.post : Int), (c.decimation : Int), c.trigger.code, natField c.trigger.stand,
   c.state.code, optCycleField c.armCycle, boolField c.flag, optCycleField c.firstTrigger, optCycleField c.lastTrigger,
   (c.blocks : Int), natField c.wpos, (c.fill : Int), (c.postTaken : Int), cycleField c.phase]

/-- The quantity of a code, 0 to 12 (section 11.6). -/
def TraceQuantity.ofCode : Nat → Option TraceQuantity
  | 0 => some .gap
  | 1 => some .force
  | 2 => some .speed
  | 3 => some .hEst
  | 4 => some .eRaw
  | 5 => some .integral
  | 6 => some .correction
  | 7 => some .clampStatus
  | 8 => some .sRef
  | 9 => some .vRef
  | 10 => some .trim
  | 11 => some .gauge
  | 12 => some .cycleLength
  | _ => none

/-- The trigger of a code, 0 to 5, with its stand (section 11.6). -/
def Trigger.ofCode (code stand : Nat) : Option Trigger :=
  match code with
  | 0 => some .immediate
  | 1 => some (.headAt stand)
  | 2 => some (.tailAt stand)
  | 3 => some .tripAny
  | 4 => some (.tripAt stand)
  | 5 => some .request
  | _ => none

/-- The mode of a code, 0 to 2 (section 11.6). -/
def TraceMode.ofCode : Nat → Option TraceMode
  | 0 => some .single
  | 1 => some .ring
  | 2 => some .block
  | _ => none

/-- Two regions share a place (R172). -/
def regionsMeet (b1 l1 b2 l2 : Nat) : Bool := decide (0 < l1 ∧ 0 < l2 ∧ b1 < b2 + l2 ∧ b2 < b1 + l1)

end Sys2Proof.Machine
end

