-- ==== Sys2Proof/Machine/Formats.lean ====
section
/-!
DEFINITION. The byte formats of the link: request payloads read and written, the receiver's frames, and the frames the
part sends (sections 11.1 and 11.6).
-/

namespace Sys2Proof.Machine

/-! ### Request payloads (section 11.6) -/

/-- Two bytes, most significant first. -/
def be16 (a b : Byte) : BitVec 16 := a ++ b

/-- Four bytes, most significant first. -/
def be32 (a b c d : Byte) : BitVec 32 := (a ++ b ++ c ++ d : BitVec (8 + 8 + 8 + 8))

/-- A 16-bit number as bytes, most significant first. -/
def bytes16 (v : BitVec 16) : List Byte := [v.extractLsb' 8 8, v.extractLsb' 0 8]

/-- A 32-bit number as bytes, most significant first. -/
def bytes32 (v : BitVec 32) : List Byte :=
  [v.extractLsb' 24 8, v.extractLsb' 16 8, v.extractLsb' 8 8, v.extractLsb' 0 8]

/-- Pairs of a field code and an index. -/
def readPairs : List Byte → Option (List (Byte × Byte))
  | [] => some []
  | a :: b :: rest => (readPairs rest).map ((a, b) :: ·)
  | _ => none

/-- Items of a field code, an index and a 32-bit value. -/
def readItems : List Byte → Option (List (Byte × Byte × BitVec 32))
  | [] => some []
  | a :: b :: c :: d :: e :: f :: rest => (readItems rest).map ((a, b, be32 c d e f) :: ·)
  | _ => none

/-- Items of a tune field and a 32-bit value. -/
def readTunes : List Byte → Option (List (Byte × BitVec 32))
  | [] => some []
  | a :: c :: d :: e :: f :: rest => (readTunes rest).map ((a, be32 c d e f) :: ·)
  | _ => none

/-- A list of 1 to `top` entries, or none. -/
def counted {α : Type} (top : Nat) (x : Option (List α)) : Option (List α) :=
  x.filter (fun l => decide (1 ≤ l.length ∧ l.length ≤ top))

/-- The request of a kind 1 to 32 and a payload, when the payload's length suits the kind (sections 11.5 and 11.6). -/
def readPayload : Nat → List Byte → Option Req
  | 0x01, [] => some .ident
  | 0x02, p => (counted 40 (readPairs p)).map .configGet
  | 0x03, p => (counted 40 (readItems p)).map .configSet
  | 0x04, [] => some .configSave
  | 0x05, [a] => some (.syncSelect a)
  | 0x06, [a] => some (.standArm a)
  | 0x07, [a] => some (.standDisarm a)
  | 0x08, [a, b] => some (.statusRead a b)
  | 0x09, [a, b, c] => some (.trackRead (be16 a b) c)
  | 0x0A, [a] => some (.scheduleStage a none)
  | 0x0A, [a, b] => some (.scheduleStage a (some b))
  | 0x0B, [] => some .scheduleUnstage
  | 0x0C, a :: p => (counted 13 (readTunes p)).map (.tuneSet a)
  | 0x0D, [a] => some (.tuneCancel a)
  | 0x0E, [a] => some (.monitorReset a)
  | 0x0F, [a] => some (.trip a)
  | 0x10, [a] => some (.tripClear a)
  | 0x11, [a, b] => some (.tripListRead a b)
  | 0x12, [a, b, c, d, e, f, g, h, i] => some (.zeroCal a (be32 b c d e) (be32 f g h i))
  | 0x13, [a] => some (.zeroCalAbort a)
  | 0x14, [] => some .calSave
  | 0x15, [a] => some (.storeErase a)
  | 0x16, [a, b, c, d, e, f, g, h, i] => some (.storeWrite a ⟨be16 b c, be16 d e, be16 f g, be16 h i⟩ none)
  | 0x16, [a, b, c, d, e, f, g, h, i, j] => some (.storeWrite a ⟨be16 b c, be16 d e, be16 f g, be16 h i⟩ (some j))
  | 0x17, [a] => some (.storeClose a)
  | 0x18, [a, b, c] => some (.storeRead a b c)
  | 0x19, [a] => some (.storeStatus a)
  | 0x1A, [a, b, c, d, e, f, g, h, i, j, k, l, m, n, o] =>
    some (.traceSetup
      { channel := a, quantity := b, index := c, base := be16 d e, length := be16 f g, mode := h, block := be16 i j
        post := be16 k l, decimation := m, trigger := n, triggerStand := o })
  | 0x1B, [a] => some (.traceArm a)
  | 0x1C, [a] => some (.traceTrigger a)
  | 0x1D, [a] => some (.traceStop a)
  | 0x1E, [a, b, c, d] => some (.traceRead a (be16 b c) d)
  | 0x1F, [a, b] => some (.subscribe a b)
  | 0x20, [] => some .restart
  | _, _ => none

/-- A request from its kind byte and payload: a byte that is no request kind, or a length that does not suit the kind, is
answered by the link controller (R182). -/
def readReq (kind : Byte) (payload : List Byte) : Req :=
  if 1 ≤ kind.toNat ∧ kind.toNat ≤ 32 then (readPayload kind.toNat payload).getD (.badLength kind)
  else .unknownKind kind

/-- The kind byte of a request (section 11.5). -/
def reqKind : Req → Byte
  | .ident => 0x01
  | .configGet _ => 0x02
  | .configSet _ => 0x03
  | .configSave => 0x04
  | .syncSelect _ => 0x05
  | .standArm _ => 0x06
  | .standDisarm _ => 0x07
  | .statusRead _ _ => 0x08
  | .trackRead _ _ => 0x09
  | .scheduleStage _ _ => 0x0A
  | .scheduleUnstage => 0x0B
  | .tuneSet _ _ => 0x0C
  | .tuneCancel _ => 0x0D
  | .monitorReset _ => 0x0E
  | .trip _ => 0x0F
  | .tripClear _ => 0x10
  | .tripListRead _ _ => 0x11
  | .zeroCal _ _ _ => 0x12
  | .zeroCalAbort _ => 0x13
  | .calSave => 0x14
  | .storeErase _ => 0x15
  | .storeWrite _ _ _ => 0x16
  | .storeClose _ => 0x17
  | .storeRead _ _ _ => 0x18
  | .storeStatus _ => 0x19
  | .traceSetup _ => 0x1A
  | .traceArm _ => 0x1B
  | .traceTrigger _ => 0x1C
  | .traceStop _ => 0x1D
  | .traceRead _ _ _ => 0x1E
  | .subscribe _ _ => 0x1F
  | .restart => 0x20
  | .unknownKind k => k
  | .badLength k => k

/-- The payload of a request, field by field (section 11.6); the two that the link controller answers carry none here. -/
def reqPayload : Req → List Byte
  | .configGet pairs => pairs.flatMap (fun p => [p.1, p.2])
  | .configSet items => items.flatMap (fun i => i.1 :: i.2.1 :: bytes32 i.2.2)
  | .syncSelect a | .standArm a | .standDisarm a | .tuneCancel a | .monitorReset a | .trip a | .tripClear a
  | .zeroCalAbort a | .storeErase a | .storeClose a | .storeStatus a | .traceArm a | .traceTrigger a | .traceStop a => [a]
  | .statusRead a b | .tripListRead a b | .subscribe a b => [a, b]
  | .trackRead a b => bytes16 a ++ [b]
  | .scheduleStage a none => [a]
  | .scheduleStage a (some b) => [a, b]
  | .tuneSet a items => a :: items.flatMap (fun i => i.1 :: bytes32 i.2)
  | .zeroCal a f r => a :: (bytes32 f ++ bytes32 r)
  | .storeWrite a d u =>
    a :: (bytes16 d.e0 ++ bytes16 d.e1 ++ bytes16 d.e2 ++ bytes16 d.e3 ++ u.toList)
  | .storeRead a b c => [a, b, c]
  | .traceSetup p =>
    [p.channel, p.quantity, p.index] ++ bytes16 p.base ++ bytes16 p.length ++ [p.mode] ++ bytes16 p.block
      ++ bytes16 p.post ++ [p.decimation, p.trigger, p.triggerStand]
  | .traceRead a o n => a :: (bytes16 o ++ [n])
  | _ => []

/-! ### Frames (R181, section 11.6) -/

/-- A frame: sync, kind, tag, length, payload and CRC (section 11.6). -/
def frameBytes (kind tag : Byte) (payload : List Byte) : List Byte :=
  let core := kind :: tag :: BitVec.ofNat 8 payload.length :: payload
  0xA5#8 :: (core ++ bytes16 (crc16 core))

/-- A frame that passed the receiver: kind, tag and payload. -/
structure RxFrame where
  kind : Byte
  tag : Byte
  payload : List Byte
  deriving DecidableEq, Repr

/-- What a receiver's buffer that begins with a sync byte holds: a frame not yet whole, one to discard, or one that passes
with the bytes after it (R181). -/
inductive RxResult where
  | waiting
  | discard
  | accept (f : RxFrame) (rest : List Byte)
  deriving DecidableEq, Repr

/-- The bytes after a sync byte, read as a frame (R181). -/
def readFrame : List Byte → RxResult
  | kind :: tag :: len :: rest =>
    if 250 < len.toNat then .discard
    else if rest.length < len.toNat + 2 then .waiting
    else
      let payload := rest.take len.toNat
      if bytes16 (crc16 (kind :: tag :: len :: payload)) = (rest.drop len.toNat).take 2 then
        .accept ⟨kind, tag, payload⟩ (rest.drop (len.toNat + 2))
      else .discard
  | _ => .waiting

/-- What the receiver makes of its bytes, one after another: a frame that passes, or one discarded (R181). -/
inductive RxEvent where
  | pass (f : RxFrame)
  | discard
  deriving DecidableEq, Repr

/-- The receiver's work on its bytes: hunting for the sync byte, frames taken and discarded, in their order, and the bytes kept
(R181). Each round uses up at least one byte. -/
def receive : Nat → List Byte → List RxEvent × List Byte
  | 0, b => ([], b)
  | _, [] => ([], [])
  | fuel + 1, x :: rest =>
    if x = 0xA5#8 then
      match readFrame rest with
      | .waiting => ([], x :: rest)
      | .discard => let r := receive fuel rest; (.discard :: r.1, r.2)
      | .accept f after => let r := receive fuel after; (.pass f :: r.1, r.2)
    else receive fuel rest

/-- The receiver after more than 200 µs without a byte: the frame not yet whole is discarded, and hunting resumes after
its sync byte; a frame found there that is not whole either has met the same gap (R181, log 17). -/
def receiveTimeout : Nat → List Byte → List RxEvent
  | 0, _ => []
  | _, [] => []
  | fuel + 1, _ :: rest =>
    let r := receive rest.length rest
    .discard :: (r.1 ++ receiveTimeout fuel r.2)

/-! ### Frames sent (section 11.6) -/

/-- A field as four bytes. -/
def fieldBytes (v : Int) : List Byte := bytes32 (BitVec.ofInt 32 v)

/-- A number as one byte. -/
def byteOf (n : Nat) : Byte := BitVec.ofNat 8 n

/-- The number of frames a reply takes: one, or parts of 243 body bytes (R183). -/
def Reply.parts (r : Reply) : Nat :=
  let n := 4 * r.body.length
  if n + 7 ≤ 250 then 1 else (n + 242) / 243

/-- The body bytes of a part, counted from 1 (R183). -/
def Reply.partBody (r : Reply) (part : Nat) : List Byte :=
  let all := r.body.flatMap fieldBytes
  if r.parts = 1 then all else (all.drop (243 * (part - 1))).take 243

/-- The kind byte of a reply: 0x80 plus the request's, or 0xFF for UNKNOWN_KIND (section 11.6). DESIGN CHOICE, log 50: a BUSY reply to a
request of no known kind carries 0x80 plus that request's kind byte, modulo 256. Unsafe. -/
def Reply.kindByte (r : Reply) : Byte := if r.code = .unknownKind then 0xFF else 0x80 + r.kind

/-- The frame of one part of a reply (R183, section 11.6). -/
def Reply.frame (r : Reply) (part : Nat) : List Byte :=
  frameBytes r.kindByte r.tag
    (byteOf r.code.value :: byteOf part :: byteOf r.parts :: (bytes32 r.cycle ++ r.partBody part))

/-- The kind byte of a report (section 11.6). -/
def ReportBody.kindByte : ReportBody → Byte
  | .event _ _ => 0x40
  | .snapshot _ _ => 0x41

/-- The bytes of a report's content from byte 9 on (section 11.6). -/
def ReportBody.bytes : ReportBody → List Byte
  | .event kind fields => byteOf kind.code :: fields.flatMap fieldBytes
  | .snapshot skipped stands =>
    byteOf skipped :: byteOf stands.length :: stands.flatMap (fun p => byteOf p.1 :: p.2.flatMap fieldBytes)

/-- The frame of a report with the sequence number and the flag it carries (R185, section 11.6). -/
def Report.frame (r : Report) (seq : Nat) (lost : Bool) : List Byte :=
  frameBytes r.body.kindByte 0
    (bytes16 (BitVec.ofNat 16 seq) ++ bytes32 r.cycle ++ [if lost then 1 else 0, byteOf r.part, byteOf r.parts]
      ++ r.body.bytes)

/-- The bytes of the frame in transmission. -/
def Tx.bytes : Tx → List Byte
  | .reply r part => r.frame part
  | .report seq lost r => r.frame seq lost

end Sys2Proof.Machine
end

