-- ==== Sys2Proof/Machine/LinkUnit.lean ====
section
/-!
DEFINITION. The link controller's queues: the arrival of a request, a formed reply, the arbiter, and the snapshots
(sections 11.2 and 11.3).
-/

namespace Sys2Proof.Machine

/-- A reply is formed and enters the reply slot (R182, R183). -/
def State.putReply (s : State) (kind tag : Byte) (code : Code) (body : List Int) : State :=
  s.mapLink (fun l =>
    { l with slot := some ⟨kind, tag, code, s.tb.cycle, body, l.order⟩, order := l.order + 1 })

/-- A request arrives: queued, or answered BUSY in the busy list, or lost and counted (R182). -/
def State.arrive (s : State) (tag : Byte) (req : Req) : State :=
  let l := s.link
  if l.queue.length < 4 then { s with link := { l with queue := l.queue ++ [(tag, req)] } }
  else if l.busy.length < 4 then
    { s with link :=
        { l with busy := l.busy ++ [⟨reqKind req, tag, .busy, s.tb.cycle, [], l.order⟩], order := l.order + 1 } }
  else { s with link := { l with overruns := countTo 65535 l.overruns } }

/-- The reply that transmission starts next: the oldest formed one of the slot and the busy list (R184). -/
def Link.takeReply (l : Link) : Option (Reply × Link) :=
  match l.slot, l.busy with
  | some r, b :: rest =>
    if b.order < r.order then some (b, { l with busy := rest }) else some (r, { l with slot := none })
  | some r, [] => some (r, { l with slot := none })
  | none, b :: rest => some (b, { l with busy := rest })
  | none, [] => none

/-- The next frame begins on a free line: the oldest formed reply, else the oldest report, which takes its sequence number
and the lost-report flag (R184, R185). -/
def Link.startNext (l : Link) : Link :=
  match l.takeReply with
  | some (r, l') => { l' with tx := some (.reply r 1) }
  | none =>
    match l.reports with
    | p :: rest =>
      { l with tx := some (.report l.seq l.lostFlag p), reports := rest, lostFlag := false, seq := nextFromZero l.seq }
    | [] => { l with tx := none }

/-- The frame in transmission is the last of an accepted RESTART's reply (R191). -/
def Link.restartSent (l : Link) : Bool :=
  match l.tx with
  | some (.reply r part) => decide (l.restart = .accepted ∧ r.kind = 0x20 ∧ r.code = .ok ∧ r.parts ≤ part)
  | _ => false

/-- The line becomes free: the next part of a reply, or the next frame; after an accepted RESTART's reply nothing is
started and the reset is due (R184, R191). -/
def Link.lineFree (l : Link) : Link :=
  if l.restart = .due then { l with tx := none }
  else if l.restartSent then { l with tx := none, restart := .due }
  else
    match l.tx with
    | some (.reply r part) => if part < r.parts then { l with tx := some (.reply r (part + 1)) } else l.startNext
    | _ => l.startNext

/-! ### Snapshots (R187) -/

/-- The twelve quantities of a stand in a snapshot (R187, section 11.6: 49 bytes a stand). DESIGN CHOICE, log 41: the speed marks
that R116 says snapshots carry have no place among them and are not sent. Unsafe. -/
def Stand.snapshot (st : Stand) : List Int :=
  [st.ctx.state.code, boolField st.sc.loaded, st.chans.gap.value, st.chans.force.value, st.chans.speed.value,
   optField st.gcu.q.hEst, optField st.gcu.q.eRaw, refField st.sc.gapRef, refField st.scu.speedRef,
   optField st.scu.trim, st.gcu.clamp.code, st.gcu.monitor]

/-- The frames of a snapshot: one for up to 4 stands, else two (R187). DESIGN CHOICE, log 51: the header of the snapshot of cycle n, formed
at the strobe of cycle n+1, carries n. Unsafe. -/
def State.snapshotReports (s : State) (ks : List Nat) (skipped : Nat) : List Report :=
  let rows := ks.map (fun k => (k, (s.stand k).snapshot))
  if ks.length ≤ 4 then [⟨s.tb.cycle, 1, 1, .snapshot skipped rows⟩]
  else [⟨s.tb.cycle, 1, 2, .snapshot skipped (rows.take 4)⟩, ⟨s.tb.cycle, 2, 2, .snapshot skipped (rows.drop 4)⟩]

/-- The snapshot of the cycle that ends is queued, or skipped and counted, when the cycle is a snapshot cycle (R187). -/
def State.snapshotDue (s : State) : State :=
  match s.link.sub with
  | none => s
  | some sub =>
    if s.tb.cycle.toNat % 2 ^ sub.exponent = 0 then
      s.mapLink (fun l =>
        if l.reports.length + 4 ≤ 32 then
          { l with reports := l.reports ++ s.snapshotReports sub.stands l.skipped, skipped := 0 }
        else { l with skipped := countTo 255 l.skipped })
    else s

/-- A subscription without the stands beyond `n`; an empty set is off (R186). -/
def Subscription.upTo (n : Nat) (x : Option Subscription) : Option Subscription :=
  x.bind (fun sub =>
    let ks := sub.stands.filter (fun k => decide (k ≤ n))
    if ks.isEmpty then none else some { sub with stands := ks })

/-- A lowering of N takes the stands beyond the new N out of the subscription that will be in force from the next cycle (R6,
R186). -/
def Link.lowerSet (l : Link) (n : Nat) : Link := { l with subNext := some (Subscription.upTo n (l.subNext.getD l.sub)) }

/-- At a strobe a subscription taken in the cycle before comes into force, without stands beyond N (R186). -/
def Link.subscribeNow (l : Link) (n : Nat) : Link :=
  { l with sub := Subscription.upTo n (l.subNext.getD l.sub), subNext := none }

end Sys2Proof.Machine
end

