-- ==== Sys2Proof/Machine/Status.lean ====
section
/-!
DEFINITION. The records of the units as reply fields, each in the order its owning rule lists (section 11.6, R83, R140,
R159, R188; what the rules leave open of the layout is log 12's).
-/

namespace Sys2Proof.Machine

/-- A list: its length and its entries (section 11.6). -/
def listFields (xs : List (List Int)) : List Int := (xs.length : Int) :: xs.flatten

/-- The timebase record (section 1.2). DESIGN CHOICE, log 3: the count of microseconds is an unbounded natural number, and the last edge
time is sent as its low 32 bits. Unsafe. -/
def State.tbFields (s : State) : List Int :=
  [s.tb.state.code, s.tb.period, s.conf.preferred, boolField s.tb.pendingInternal, cycleField s.tb.cycle, s.tb.lastLen,
   (s.tb.goodRun : Int), (s.tb.qualCount : Int), natField s.tb.lastEdge, (s.tb.holdover : Int)]

/-- The fields that every channel record has, in the order of the table of section 2.1. DESIGN CHOICE, log 12: STATUS READ sends gain and
offset with the rest, though section 2.1 takes the scaling fields from the configuration (R188). Unsafe. -/
def Chan.common (c : Chan) (x : Scaling) : List Int :=
  [x.gain, x.offset, c.value, boolField c.overRange, c.status.code, (c.age : Int), (c.misses : Int)]

/-- A gap, force or speed channel's record (section 2.1). -/
def Chan.fields (c : Chan) (x : Scaling) : List Int := c.common x ++ [boolField c.lostCond, (c.recovery : Int)]

/-- A gauge channel's record (section 2.1); `x` is the gauge's configuration that it shows. -/
def Chan.gaugeFields (c : Chan) (x : GaugeConf) : List Int := c.common x.scale ++ [x.divider, optCycleField c.lastSample]

/-- An emergency-stop input's record: ACTIVE 0, INACTIVE 1; level; run (R28). -/
def Estop.fields (e : Estop) : List Int := [boolField (!e.active), boolField e.level, (e.run : Int)]

/-- The store's operation record, in the five fields that R159 lists for a reply. DESIGN CHOICE, log 12: "idle or busy" is sent as idle 0
and busy 1, and STATUS READ sends these five fields too, without the operation mark that R153 keeps in the record. Unsafe. -/
def Store.opFields (st : Store) : List Int :=
  [boolField st.op.isSome, optField (st.op.map (fun o => o.kind.code)), natField (st.op.map StoreOp.slot),
   natField (st.op.bind (fun o => o.step.unit)), (st.faults : Int)]

/-- The group TRAIN (R188). DESIGN CHOICE, log 12: a gauge record shows divider, gain and offset as CONFIG SET last left them, also in the
cycle of the CONFIG SET, in which the old divider is still in force (R27). Unsafe. -/
def State.trainFields (s : State) : List Int :=
  s.tbFields ++ s.lineFields
    ++ [s.estops.l0, s.estops.l1, s.estops.l2, s.estops.l3].flatMap Estop.fields
    ++ [1, 2, 3].flatMap (fun g => (s.gauges.get g).gaugeFields (s.conf.gauges.get g))
    ++ [optField (s.images.staged.map (fun x => x.sched.id)), natField (s.images.staged.map Staged.slot),
        optField (s.images.staged.map (fun x => boolField x.rep))]
    ++ s.store.opFields

/-- A target as one field: a bar's id, 0 for the staged schedule, absent for none. -/
def Target.field : Target → Int
  | .bar id => (id : Int)
  | .staged => 0
  | .nothing => absentMarker

/-- The stand record (section 3.1), with the limits in force and the configured ones. -/
def Stand.recordFields (st : Stand) (c : StandConf) : List Int :=
  let r := st.sc
  [r.state.code, boolField r.loaded, (r.loadOnRun : Int), (r.loadOffRun : Int), r.target.field, natField r.served,
   (r.posRun : Int), (r.threadCount : Int), r.firstSign.code, (r.followRun.count : Int), (r.runawayRun.count : Int),
   refField r.gapRef, refField st.scu.speedRef, refField r.prevGap, r.sMin, r.sMax, c.sMin, c.sMax]

/-- Byte `j` of a source set: the sum of 2^i over its sources of that kind (section 11.6). -/
def sourceByte (ids : List SourceId) (j : Nat) : Nat :=
  ((ids.filter (fun x => x.kind.code = j)).map (fun x =>
    2 ^ (if x.kind.line.isSome then 0 else x.index.getD 0))).sum

/-- A source set as four fields of four bytes (section 11.6). -/
def sourceFields (ids : List SourceId) : List Int :=
  [0, 4, 8, 12].map (fun j =>
    (be32 (byteOf (sourceByte ids j)) (byteOf (sourceByte ids (j + 1))) (byteOf (sourceByte ids (j + 2)))
      (byteOf (sourceByte ids (j + 3)))).toInt)

/-- A stand's trip record (section 7.3). -/
def StandTrip.fields (t : StandTrip) : List Int :=
  [boolField t.latch, (t.action.rank : Int)] ++ sourceFields t.sources ++ [(t.union.toNat : Int)]

/-- The group STAND (R188). DESIGN CHOICE, log 12: a channel record shows gain and offset as CONFIG SET last left them, also in the cycle
of the CONFIG SET. Unsafe. -/
def State.standFields (s : State) (k : Nat) : List Int :=
  let st := s.stand k
  let c := s.conf.stands.get k
  st.recordFields c ++ st.chans.gap.fields c.gapScale ++ st.chans.force.fields c.forceScale
    ++ st.chans.speed.fields c.speedScale ++ st.trip.fields

/-- The group CONTROL: the GCU record without its curve and the SCU record (R188). DESIGN CHOICE, log 12: each clamp status is one
field, coded as R170 codes its samples, and the cascade mode in force is sent by the code of R162, none as the absent marker (R111).
Unsafe. -/
def State.controlFields (s : State) (k : Nat) : List Int :=
  let g := (s.stand k).gcu
  let u := (s.stand k).scu
  [g.zero, boolField g.zeroKnown, g.iacc, g.monitor, g.clamp.code, g.prevClamp.code]
    ++ g.live.toList.map optField
    ++ boolField g.pendingTune.isSome :: (g.pendingTune.getD .empty).toList.map optField
    ++ [optField g.q.hEst, optField g.q.eRaw, optField g.q.e, optField g.q.i, optField g.q.c, optField g.q.dS,
        optField g.q.sRef]
    ++ [optField (u.mode.map Mode.code), optField u.ratio, optField u.trim, boolField u.trimHigh, boolField u.trimLow,
        optField u.demand, boolField u.slewLimited, boolField u.rangeLimited, refField u.speedRef, refField u.prevSpeed]

/-- The group CURVE: the points and the source slot (R188). DESIGN CHOICE, log 12: a curve not loaded is sent as a list of length 0 with an
absent source slot, and the slot of a loaded one by its curve slot 0 to 7, not by its store slot 32 to 39. Unsafe. -/
def State.curveFields (s : State) (k : Nat) : List Int :=
  let c := (s.stand k).gcu.curve
  listFields ((curveOf c).map (fun p => [p.1, p.2])) ++ [natField (c.map Curve.slot)]

/-- The group CALIBRATION: the calibration record, the zero offset and its known mark (R188). DESIGN CHOICE, log 12: a prior result is
sent by its place in the list of results, and none as the absent marker. Unsafe. -/
def State.calFields (s : State) (k : Nat) : List Int :=
  let c := (s.stand k).cal
  let g := (s.stand k).gcu
  [c.phase.code, c.kissForce, c.closeRate, c.startGap, optField c.kissRef, (c.holdCount : Int), c.sumS, c.sumF,
   optField c.sAvg, optField c.fAvg, c.oldZero, optField c.candidate, c.result.code,
   optField (c.prior.map CalResult.code), g.zero, boolField g.zeroKnown]

/-- A bar record (R61). -/
def Bar.fields (b : Bar) : List Int :=
  [(b.id : Int), (b.copy : Int), (b.slot : Int), (b.furthest : Int), natField b.missed, boolField b.tailBorn,
   boolField b.trackFull]

/-- The code of a segment kind. DESIGN CHOICE, log 12: HEAD 0, BODY 1, TAIL 2. Unsafe. -/
def SegKind.code : SegKind → Int
  | .head => 0
  | .body => 1
  | .tail => 2

/-- A segment record with its two lists whole (R83). -/
def Seg.fields (x : Seg) : List Int :=
  [(x.seq : Int), (x.bar : Int), x.kind.code, (x.zone : Int), x.dist, cycleField x.birth]
    ++ listFields (x.ests.map (fun e => [(e.stand : Int), optField e.thickness, e.hRef, boolField e.startup]))
    ++ listFields (x.reads.map (fun r => [(r.gauge : Int), r.thickness]))

/-- What TRACK READ returns (R83). -/
def State.trackFields (s : State) (start count : Nat) : List Int :=
  [cycleField s.tb.cycle, (s.track.segs.length : Int), (s.track.nextSeq : Int), (s.track.nextBar : Int)]
    ++ listFields (s.track.bars.map Bar.fields)
    ++ listFields (((s.track.segs.drop start).take count).map Seg.fields)

/-- What TRIP LIST READ returns (R140). -/
def State.tripListFields (s : State) (start count : Nat) : List Int :=
  [cycleField s.tb.cycle, (s.trips.next : Int), (s.trips.records.length : Int)] ++ s.lineFields
    ++ listFields ((standsTo s.conf.n).map (fun k => (s.stand k).trip.fields))
    ++ listFields (((s.trips.records.drop start).take count).map TripRecord.fields)

/-- A slot's record; the written-unit map as its units 62 to 32 and 31 to 0 (R153, log 12). -/
def SlotRec.fields (r : SlotRec) : List Int :=
  [r.state.code, ((r.map >>> 32).setWidth 32).toInt, (r.map.setWidth 32).toInt, (r.cursor : Int), boolField r.damage]

/-- What STORE STATUS returns: up to 8 slots from one on, and the operation record (R159). -/
def Store.statusFields (st : Store) (first : Nat) : List Int :=
  listFields ((List.range (min 8 (42 - first))).map (fun i => (st.slotRec (first + i)).fields)) ++ st.opFields

end Sys2Proof.Machine
end

