-- ==== Sys2Proof/Machine/Requests.lean ====
section
/-!
DEFINITION. What each request does when its owning unit takes it: the state it leaves, the reply code and the reply body
(R6, R42 to R44, R83, R104 to R107, R137 to R140, R143, R149, R151, R154 to R167, R172 to R180, R186 to R191).
-/

namespace Sys2Proof.Machine

/-- A taken request: the state it leaves, its reply code and its body. -/
abbrev Answer := State × Code × List Int

/-- A refusal: nothing changes and the reply has no body. -/
def State.refuse (s : State) (c : Code) : Answer := (s, c, [])

/-- The stand number lies within 1 to N. -/
def State.isStand (s : State) (k : Nat) : Bool := decide (1 ≤ k ∧ k ≤ s.conf.n)

/-- The stands of a set byte: bit `k − 1` for stand `k` (section 11.6). -/
def standsOf (b : Byte) : List Nat := [1, 2, 3, 4, 5, 6, 7, 8].filter (fun k => b.getLsbD (k - 1))

/-- Every configured stand is PARKED or TRIPPED and the bar list is empty (R190, R191). -/
def State.trainIdle (s : State) : Bool :=
  (standsTo s.conf.n).all (fun k => decide ((s.stand k).sc.state = .parked ∨ (s.stand k).sc.state = .tripped))
    && s.track.bars.isEmpty

/-! ### Link controller: IDENT, STATUS READ, CONFIG, SUBSCRIBE, RESTART -/

/-- IDENT (R188). -/
def State.takeIdent (s : State) : Answer :=
  (s, .ok, [6, (Config.siliconRevision : Int), (s.link.rate : Int), s.conf.standCount, s.conf.period, 4, 32,
    (s.link.discards : Int), (s.link.overruns : Int)])

/-- STATUS READ (R188). -/
def State.takeStatus (s : State) (group k : Nat) : Answer :=
  if group = 0 then (s, .ok, s.trainFields)
  else if ¬s.isStand k then s.refuse .badIndex
  else
    match group with
    | 1 => (s, .ok, s.standFields k)
    | 2 => (s, .ok, s.controlFields k)
    | 3 => (s, .ok, s.curveFields k)
    | 4 => (s, .ok, s.calFields k)
    | _ => s.refuse .badIndex

/-- CONFIG GET (R189). -/
def State.takeConfigGet (s : State) (pairs : List (Byte × Byte)) : Answer :=
  if pairs.all (fun p => fieldExists p.1.toNat p.2.toNat) then
    (s, .ok, pairs.map (fun p => s.conf.field p.1.toNat p.2.toNat))
  else s.refuse .badIndex

/-- The copy of the configuration that a CONFIG SET works on, before clamping (R190). -/
def Conf.withItems (c : Conf) (items : List (Byte × Byte × BitVec 32)) : Conf :=
  items.foldl (fun c i => c.setField i.1.toNat i.2.1.toNat i.2.2.toInt) c

/-- A stand that a lowering of N removes: latch cleared, trip record emptied, its source withdrawn; it serves no bar and
holds no state of its own from the next cycle (R32, R45, R142). DESIGN CHOICE, log 18: its gap zero stays known until the strobe, so a CAL
SAVE taken in between saves it. Unsafe. -/
def Stand.removed (st : Stand) : Stand :=
  { st with
    lostSrc := false, trip := .clear
    sc := { st.sc with state := .parked, served := none, target := .nothing, armGap := none, armSpeed := none }
    gcu := { st.gcu with iacc := 0, pendingTune := none }, cal := .reset }

/-- A stand as a raise of N adds it: PARKED, latch clear, reset values (R45, R85, R110, R142), in use from the next cycle. One that was
removed in this same cycle keeps the channels and the quantities of the cycle to its end (R6, R32); its zero, its curve and what requests
left in its record are those of a stand added. -/
def Stand.added (c : StandConf) (st : Stand) (inCycle : Bool) : Stand :=
  if inCycle then
    let r := st.removed
    { r with gcu := { r.gcu with zero := 0, zeroKnown := false, curve := none } }
  else Stand.unused c

/-- A trace channel whose stand is beyond a lowered N loses it with the end of the cycle (R170). -/
def TraceChan.leave (c : TraceChan) (n : Nat) : TraceChan :=
  if (c.quantity.any TraceQuantity.ofStand) ∧ n < c.index.getD 0 ∧ c.presence = .here then { c with presence := .leaving } else c

/-- Every trace channel after a lowering of N (R170). -/
def Trace.leave (t : Trace) (n : Nat) : Trace := { t with chans := t.chans.map (fun c => c.leave n) }

/-- A change of N when it is taken: stands added or removed, the subscription without the stands beyond a lower N, the staged
buffer emptied, targets worked out again (R45, R142, R165, R186). A channel that traces a stand removed has lost it (R170). -/
def State.changeN (s : State) (old : Nat) : State :=
  let new := s.conf.n
  if old = new then s
  else
    let gone := (standsTo old).filter (fun k => decide (new < k))
    let s := s.mapStands (fun k st =>
      if old < k ∧ k ≤ new then st.added (s.conf.stands.get k) (decide (k ≤ s.force.n))
      else if new < k ∧ k ≤ old then st.removed else st)
    let s := s.mapTrips (fun t => t.markCleared gone)
    let s := { s with lowN := min s.lowN new }
    let s := if new < old then (s.mapLink (fun l => l.lowerSet new)).mapTrace (fun t => t.leave new) else s
    let before := s
    let slot := s.images.staged.map Staged.slot
    let s := { s with images := { s.images with staged := none } }
    let s := match slot with
      | some n => s.settleDamage n
      | none => s
    s.retarget before false

/-- Configured limits that differ from those in force wait while the gap reference is driven (R36). -/
def State.waitLimits (s : State) : State :=
  s.mapStands (fun k st =>
    let c := s.conf.stands.get k
    if st.sc.gapRef.isSome then
      { st with sc := { st.sc with limWait := decide (c.sMin ≠ st.sc.sMin ∨ c.sMax ≠ st.sc.sMax) } }
    else st)

/-- CONFIG SET (R190). -/
def State.takeConfigSet (s : State) (items : List (Byte × Byte × BitVec 32)) : Answer :=
  if ¬items.all (fun i => fieldExists i.1.toNat i.2.1.toNat) then s.refuse .badIndex
  else
    let copy := s.conf.withItems items
    if copy.structural ≠ s.conf.structural ∧ ¬s.trainIdle then s.refuse .wrongState
    else if copy.clamped.doubleBinding then s.refuse .badIndex
    else
      ((({ s with conf := copy.clamped }).changeN s.conf.n).waitLimits, .clampedIf (decide (copy.clamped ≠ copy)), [])

/-- SUBSCRIBE (R186). -/
def State.takeSubscribe (s : State) (exponent : Nat) (set : Byte) : Answer :=
  let ks := standsOf set
  if ks.any (fun k => !s.isStand k) then s.refuse .badIndex
  else if ks.isEmpty then (s.mapLink (fun l => { l with subNext := some none }), .ok, [])
  else
    let n := min 12 (max 4 exponent)
    (s.mapLink (fun l => { l with subNext := some (some ⟨n, ks⟩) }), .clampedIf (decide (n ≠ exponent)), [])

/-- RESTART (R191). -/
def State.takeRestart (s : State) : Answer :=
  if s.trainIdle && s.store.op.isNone then (s.mapLink (fun l => { l with restart := .accepted }), .ok, [])
  else s.refuse .wrongState

/-! ### Timebase: SYNC SELECT -/

/-- The qualification fields cleared (R9, R14). DESIGN CHOICE, log 54: an edge counted in this cycle is forgotten with them, so that after a
rejection by an edge and a SYNC SELECT MILL of the same cycle the next internal strobe is edgeless unless a new edge is counted. Unsafe. -/
def Timebase.clearQual (t : Timebase) : Timebase :=
  { t with goodRun := 0, qualCount := 0, lastEdge := none, edgeSeen := false }

/-- SYNC SELECT on the timebase: source 1 is MILL, 0 INTERNAL (R14). -/
def Timebase.select (t : Timebase) (mill : Bool) : Timebase :=
  match mill, t.state with
  | true, .internal => { t.clearQual with state := .qualifying }
  | true, _ => { t with pendingInternal := false }
  | false, .internal => t
  | false, _ => { t with pendingInternal := true }

/-- SYNC SELECT (R14). -/
def State.takeSyncSelect (s : State) (source : Nat) : Answer :=
  if 1 < source then s.refuse .badIndex
  else
    let s := s.mapTb (fun t => t.select (decide (source = 1)))
    (s, .ok, [s.tb.state.code, boolField s.tb.pendingInternal])

/-! ### Stands: STAND ARM, STAND DISARM, ZERO CAL, ZERO CAL ABORT -/

/-- The store slot of the curve slot bound to stand `k` (R42). -/
def State.boundSlot (s : State) (k : Nat) : Nat := (32 + (s.conf.stands.get k).curveSlot).toNat

/-- A curve load: the state it leaves and whether it succeeded; on success the stand has the curve (R164, R167). -/
def State.loadCurve (s : State) (k : Nat) : State × Bool :=
  let slot := s.boundSlot k
  let r := s.store.slotRec slot
  if r.state ≠ .valid ∨ r.damage then (s, false)
  else
    let c := s.checkCopy slot
    if ¬c.2 then (c.1, false)
    else
      let e := s.store.entry slot
      let points := curvePoints e
      if (e 0).toNat < 2 ∨ 16 < (e 0).toNat ∨ ¬risingForces points then (s, false)
      else (s.mapGcu k (fun g => { g with curve := some ⟨points, slot - 32⟩ }), true)

/-- An accepted STAND ARM: POSITIONING, with the arming gap and the first speed reference (R43). -/
def State.armStand (s : State) (k : Nat) : State :=
  let st := s.stand k
  (s.changeState k .positioning .armed).mapSc k (fun r =>
    { r with
      posRun := 0, followRun := .zero, runawayRun := .zero
      armGap := some (clampTo r.sMin r.sMax st.chans.gap.value)
      armSpeed := some (clampTo 0 25000 st.chans.speed.value) })

/-- STAND ARM (R42, R43). -/
def State.takeArm (s : State) (k : Nat) : Answer :=
  let st := s.stand k
  if ¬s.isStand k then s.refuse .badIndex
  else if st.sc.state ≠ .parked then s.refuse .wrongState
  else if st.chans.gap.status = .lost ∨ st.chans.force.status = .lost then s.refuse .wrongState
  else if st.sc.target = .nothing then s.refuse .noSchedule
  else if s.busySlot (s.boundSlot k) then s.refuse .busy
  else
    let c := s.loadCurve k
    if ¬c.2 then c.1.refuse .curveBad
    else if ¬st.gcu.zeroKnown then c.1.refuse .notValid
    else
      let t := c.1.armStand k
      (t, .ok, [(t.stand k).sc.state.code])

/-- STAND DISARM (R44). -/
def State.takeDisarm (s : State) (k : Nat) : Answer :=
  if ¬s.isStand k then s.refuse .badIndex
  else
    match (s.stand k).sc.state with
    | .parked => (s, .ok, [StandState.parked.code])
    | .positioning | .ready => (s.park k .disarmed, .ok, [StandState.parked.code])
    | _ => s.refuse .wrongState

/-- A calibration begins: the record set afresh, the stand CALIBRATING from the start gap (R143). -/
def State.startCalibration (s : State) (k : Nat) (kiss rate : Int) : State :=
  let st := s.stand k
  let start := clampTo st.sc.sMin st.sc.sMax st.chans.gap.value
  let s := s.changeState k .calibrating .calibration
  s.mapStand k (fun st =>
    { st with
      sc := { st.sc with armGap := some start }
      cal := { Cal.reset with
        phase := .closing, kissForce := kiss, closeRate := rate, startGap := start, oldZero := st.gcu.zero } })

/-- ZERO CAL (R143). -/
def State.takeZeroCal (s : State) (k : Nat) (kiss rate : Int) : Answer :=
  let st := s.stand k
  if ¬s.isStand k then s.refuse .badIndex
  else if st.sc.state ≠ .parked then s.refuse .wrongState
  else if st.sc.loaded then s.refuse .wrongState
  else if st.chans.gap.status ≠ .ok ∨ st.chans.force.status ≠ .ok then s.refuse .wrongState
  else if st.gcu.curve.isNone then s.refuse .curveBad
  else
    let f := clampTo 500 20000 kiss
    let r := clampTo 1 50 rate
    (s.startCalibration k f r, .clampedIf (decide (f ≠ kiss ∨ r ≠ rate)), [])

/-- ZERO CAL ABORT on the calibration record, by its phase (R149). -/
def Cal.abort (c : Cal) : Cal :=
  match c.phase with
  | .closing | .holding => { c with result := .aborted, phase := .opening }
  | .opening => if c.result = .ok then { c with result := .aborted } else c
  | .nothing => c

/-- ZERO CAL ABORT (R149). -/
def State.takeZeroCalAbort (s : State) (k : Nat) : Answer :=
  if ¬s.isStand k then s.refuse .badIndex
  else if (s.stand k).sc.state ≠ .calibrating then s.refuse .wrongState
  else (s.mapCal k Cal.abort, .ok, [])

/-! ### Tracker and trips: TRACK READ, TRIP, TRIP CLEAR, TRIP LIST READ -/

/-- A count of 0 or above `top` is taken as `top` (R83, R140, R159, R180). -/
def countOrTop (top n : Nat) : Nat := if n = 0 ∨ top < n then top else n

/-- TRACK READ (R83). -/
def State.takeTrackRead (s : State) (start count : Nat) : Answer :=
  if s.track.segs.length < start then s.refuse .badIndex
  else (s, .clampedIf (decide (countOrTop 3 count ≠ count)), s.trackFields start (countOrTop 3 count))

/-- TRIP: a HOST source of the next cycle; 0 names no stand (R137). -/
def State.takeTrip (s : State) (k : Nat) : Answer :=
  if k ≠ 0 ∧ ¬s.isStand k then s.refuse .badIndex
  else
    (s.mapTrips (fun t => { t with host := t.host ++ [if k = 0 then none else some k] }), .ok,
     [cycleField (s.tb.cycle + 1)])

/-- A condition source is active as last presented (R138, R139). -/
def State.sourceActive (s : State) (id : SourceId) : Bool :=
  match id.kind.line with
  | some i => (s.estops.get i).active
  | none => decide (id.kind = .measurementLost) && (id.index.any (fun k => (s.stand k).lostSrc))

/-- The outcome of a TRIP CLEAR for one stand (R138). DESIGN CHOICE, log 49: before the deadline of cycle 0 a stand that no
emergency-stop row reaches has only RESET in its source set, and is cleared; so is, in any cycle, a stand with a LOST channel to which the
MEASUREMENT LOST row gives NONE, since that source never joins its set (R126), although R141 says that no stand can be cleared before
its channels have recovered. Unsafe. -/
def State.clearOutcome (s : State) (k : Nat) : Code :=
  let t := (s.stand k).trip
  if ¬t.latch then .wrongState else if t.sources.any s.sourceActive then .sourceActive else .ok

/-- A stand is cleared: latch and trip record emptied, PARKED, bar served none, integrator zeroed (R57, R96, R138). -/
def State.clearStand (s : State) (k : Nat) : State :=
  ((s.mapStand k (fun st => { st with trip := .clear })).park k .cleared).unserve k

/-- The code of a TRIP CLEAR: OK, or the outcome of the first stand that was not cleared (R138). -/
def firstRefusal (outcomes : List (Nat × Code)) : Code :=
  match outcomes.find? (fun p => decide (p.2 ≠ .ok)) with
  | some p => p.2
  | none => .ok

/-- TRIP CLEAR: a set of stands, 0 for every configured stand whose latch is set (R138). DESIGN CHOICE, log 12: the reply lists
pairs of a stand and its outcome's code, 0 for cleared. Unsafe. -/
def State.takeTripClear (s : State) (set : Byte) : Answer :=
  let ks := if set = 0 then (standsTo s.conf.n).filter (fun k => (s.stand k).trip.latch) else standsOf set
  if ks.any (fun k => !s.isStand k) then s.refuse .badIndex
  else
    let outcomes := ks.map (fun k => (k, s.clearOutcome k))
    let cleared := (outcomes.filter (fun p => decide (p.2 = .ok))).map Prod.fst
    let s := cleared.foldl State.clearStand s
    let s := if cleared.isEmpty then s
      else (s.mapTrips (fun t => t.markCleared cleared)).report .tripCleared (standSet cleared :: s.lineFields)
    (s, firstRefusal outcomes, listFields (outcomes.map (fun p => [(p.1 : Int), (p.2.value : Int)])) ++ s.lineFields)

/-- TRIP LIST READ (R140). -/
def State.takeTripListRead (s : State) (start count : Nat) : Answer :=
  if s.trips.records.length < start then s.refuse .badIndex
  else (s, .clampedIf (decide (countOrTop 3 count ≠ count)), s.tripListFields start (countOrTop 3 count))

/-! ### Gauge control: TUNE SET, TUNE CANCEL, MONITOR RESET -/

/-- The live override that a stand's next cycle starts from: none for a stand added in this cycle, which may still hold that of the stand
removed in it (R85, R105). -/
def State.liveTune (s : State) (k : Nat) : Tune := if k ≤ s.lowN then (s.stand k).gcu.live else .empty

/-- TUNE SET (R105). DESIGN CHOICE, log 48: the items are entered in their order, so that of two for one field the later stands;
log 12: the reply has the 13 fields of the pending override and no presence flag. Unsafe. -/
def State.takeTuneSet (s : State) (k : Nat) (items : List (Byte × BitVec 32)) : Answer :=
  if ¬s.isStand k then s.refuse .badIndex
  else if items.any (fun i => decide (12 < i.1.toNat)) then s.refuse .badIndex
  else
    let g := (s.stand k).gcu
    let t := items.foldl (fun t i => t.setField i.1.toNat (tuneClamp i.1.toNat i.2.toInt)) (g.pendingTune.getD (s.liveTune k))
    (s.mapGcu k (fun g => { g with pendingTune := some t }),
     .clampedIf (items.any (fun i => decide (tuneClamp i.1.toNat i.2.toInt ≠ i.2.toInt))), t.toList.map optField)

/-- A change of the GCU record of stand `k`, or of every configured stand for 0. -/
def State.mapGcus (s : State) (k : Nat) (f : Gcu → Gcu) : State :=
  if k = 0 then s.forStands s.conf.n (fun j s => s.mapGcu j f) else s.mapGcu k f

/-- TUNE CANCEL: one stand, or all for 0 (R107). -/
def State.takeTuneCancel (s : State) (k : Nat) : Answer :=
  if k ≠ 0 ∧ ¬s.isStand k then s.refuse .badIndex
  else (s.mapGcus k (fun g => { g with pendingTune := some .empty }), .ok, [])

/-- MONITOR RESET: one stand, or all for 0 (R104). -/
def State.takeMonitorReset (s : State) (k : Nat) : Answer :=
  if k ≠ 0 ∧ ¬s.isStand k then s.refuse .badIndex
  else (s.mapGcus k (fun g => { g with monitor := 0 }), .ok, [])

/-! ### Schedule store -/

/-- The staged buffer is replaced or emptied: a slot it named with pending damage is settled, and targets are worked out
again (R163 to R165). -/
def State.setStaged (s : State) (x : Option Staged) (restaged : Bool) : State :=
  let t := { s with images := { s.images with staged := x } }
  let t := match s.images.staged with
    | some y => t.settleDamage y.slot
    | none => t
  t.retarget s restaged

/-- SCHEDULE STAGE (R163). -/
def State.takeStage (s : State) (slot : Nat) (rep : Option Byte) : Answer :=
  if 31 < slot then s.refuse .badIndex
  else if s.busySlot slot then s.refuse .busy
  else if (s.store.slotRec slot).state ≠ .valid ∨ (s.store.slotRec slot).damage then s.refuse .notValid
  else
    let c := s.checkCopy slot
    if ¬c.2 then c.1.refuse .notValid
    else
      let x := Sched.ofSlot (s.store.entry slot)
      if x.1.count ≠ s.conf.standCount then s.refuse .notValid
      else
        (s.setStaged (some ⟨x.1, slot, rep.any (fun b => decide (b ≠ 0))⟩) true, .clampedIf x.2, [])

/-- SCHEDULE UNSTAGE (R165). -/
def State.takeUnstage (s : State) : Answer := (s.setStaged none false, .ok, [])

/-- CAL SAVE (R151). -/
def State.takeCalSave (s : State) : Answer :=
  if s.store.op.isSome then s.refuse .busy else (s.startCalSave, .ok, [])

/-- CONFIG SAVE (R161). -/
def State.takeConfigSave (s : State) : Answer :=
  if s.store.op.isSome then s.refuse .busy else (s.startConfigSave, .ok, [])

/-- STORE ERASE (R156). -/
def State.takeErase (s : State) (slot : Nat) : Answer :=
  if 39 < slot then s.refuse .badIndex
  else if s.store.op.isSome then s.refuse .busy
  else if s.inUse slot then s.refuse .inUse
  else (s.mapStore (fun st => st.start .erase slot .erase []), .ok, [])

/-- STORE WRITE: the unit named, or the slot's cursor (R157). -/
def State.takeWrite (s : State) (slot : Nat) (data : Quad) (unit : Option Byte) : Answer :=
  let r := s.store.slotRec slot
  let u := (unit.map BitVec.toNat).getD r.cursor
  if 39 < slot then s.refuse .badIndex
  else if 62 < u then s.refuse .badIndex
  else if s.store.op.isSome then s.refuse .busy
  else if s.inUse slot then s.refuse .inUse
  else if r.state = .valid then s.refuse .wrongState
  else if r.state = .damaged then s.refuse .notValid
  else if r.map.getLsbD u then s.refuse .notBlank
  else (s.mapStore (fun st => st.start .write slot (.write u data) []), .ok, [])

/-- STORE CLOSE (R158). -/
def State.takeClose (s : State) (slot : Nat) : Answer :=
  if 39 < slot then s.refuse .badIndex
  else if s.store.op.isSome then s.refuse .busy
  else if (s.store.slotRec slot).state ≠ .opened then s.refuse .wrongState
  else (s.mapStore (fun st => st.start .close slot .close []), .ok, [])

/-- STORE READ (R159). -/
def State.takeRead (s : State) (slot first count : Nat) : Answer :=
  if 41 < slot ∨ 255 < first then s.refuse .badIndex
  else if s.busySlot slot then s.refuse .busy
  else
    let n := min (countOrTop 60 count) (256 - first)
    (s, .clampedIf (decide (n ≠ count)),
     (s.store.slotRec slot).state.code :: listFields ((s.store.entries slot first n).map (fun x => [uEntry x])))

/-- STORE STATUS (R159). -/
def State.takeStoreStatus (s : State) (first : Nat) : Answer :=
  if 41 < first then s.refuse .badIndex else (s, .ok, s.store.statusFields first)

/-! ### Trace unit -/

/-- The index a quantity takes: a stand of 1 to N, a gauge of 1 to 3, or none for cycle length; `none` outside where the
index is out of range (R172). -/
def State.traceIndex (s : State) (q : TraceQuantity) (i : Nat) : Option (Option Nat) :=
  match q with
  | .cycleLength => some none
  | .gauge => if 1 ≤ i ∧ i ≤ 3 then some (some i) else none
  | _ => if s.isStand i then some (some i) else none

/-- A block size or post-trigger count in 1 to the region length; 1 where there is no region (R172, log 26). -/
def clampSize (length n : Nat) : Nat := max 1 (min length n)

/-- TRACE SETUP (R172). DESIGN CHOICE, log 26: an unknown mode is tested before OVERLAP, and the phase cycle is kept. Unsafe. -/
def State.takeTraceSetup (s : State) (p : TraceParams) : Answer :=
  let ch := p.channel.toNat
  let c := s.trace.chans.get ch
  let base := p.base.toNat
  let length := p.length.toNat
  if 7 < ch then s.refuse .badIndex
  else if c.state ≠ .idle ∧ c.state ≠ .done then s.refuse .busy
  else
    match TraceQuantity.ofCode p.quantity.toNat, Trigger.ofCode p.trigger.toNat p.triggerStand.toNat,
        TraceMode.ofCode p.mode.toNat with
    | some q, some t, some m =>
      match s.traceIndex q p.index.toNat with
      | none => s.refuse .badIndex
      | some i =>
        if t.stand.any (fun k => !s.isStand k) then s.refuse .badIndex
        else if length ≠ 0 ∧ ¬(16 ≤ length ∧ length ≤ 16384 ∧ base + length ≤ 16384) then s.refuse .badIndex
        else if [0, 1, 2, 3, 4, 5, 6, 7].any (fun j =>
            decide (j ≠ ch) && regionsMeet base length (s.trace.chans.get j).base (s.trace.chans.get j).length) then
          s.refuse .overlap
        else
          let block := clampSize length p.block.toNat
          let post := clampSize length p.post.toNat
          let d := min 7 p.decimation.toNat
          let c : TraceChan :=
            { quantity := some q, index := i, base := base, length := length, mode := m, block := block, post := post
              decimation := d, trigger := t, state := .idle, armCycle := none, flag := false, firstTrigger := none
              lastTrigger := none, blocks := 0, wpos := if length = 0 then none else some base, fill := 0
              postTaken := 0, phase := c.phase, presence := .here }
          (s.setChan ch c,
           .clampedIf (decide (block ≠ p.block.toNat ∨ post ≠ p.post.toNat ∨ d ≠ p.decimation.toNat)), c.fields)
    | _, _, _ => s.refuse .badIndex

/-- TRACE ARM (R173). -/
def State.takeTraceArm (s : State) (ch : Nat) : Answer :=
  let c := s.trace.chans.get ch
  if 7 < ch then s.refuse .badIndex
  else if c.state = .armed ∨ c.state = .capturing then s.refuse .busy
  else if c.length = 0 then s.refuse .wrongState
  else (s.setChan ch (c.arm (s.tb.cycle + 1)), .ok, [cycleField (s.tb.cycle + 1)])

/-- TRACE TRIGGER: a channel, or all for 255; a trigger labelled with the next cycle (R178). -/
def State.takeTraceTrigger (s : State) (ch : Nat) : Answer :=
  let chs := if ch = 255 then [0, 1, 2, 3, 4, 5, 6, 7] else [ch]
  if 7 < ch ∧ ch ≠ 255 then s.refuse .badIndex
  else
    (s.mapTrace (fun t => { t with triggers := t.triggers ++ chs.map (fun c => ⟨.request, some c, s.tb.cycle + 1⟩) }),
     .ok, cycleField (s.tb.cycle + 1) :: listFields (chs.map (fun c => [(s.trace.chans.get c).state.code])))

/-- TRACE STOP (R179). -/
def State.takeTraceStop (s : State) (ch : Nat) : Answer :=
  let c := s.trace.chans.get ch
  if 7 < ch then s.refuse .badIndex
  else
    match c.state with
    | .idle => s.refuse .wrongState
    | .done => (s, .ok, [])
    | _ =>
      ((s.setChan ch { c with state := .done }).report .traceDone (traceDoneFields ch 0 c), .ok, [])

/-- TRACE READ (R180). -/
def State.takeTraceRead (s : State) (ch offset count : Nat) : Answer :=
  let c := s.trace.chans.get ch
  if 7 < ch then s.refuse .badIndex
  else if c.state = .armed ∨ c.state = .capturing then s.refuse .busy
  else if c.fill < offset then s.refuse .badIndex
  else
    let n := min (countOrTop 60 count) (c.fill - offset)
    (s, .clampedIf (decide (count = 0 ∨ n ≠ count)),
     c.fields ++ listFields ((List.range n).map (fun i => [s.trace.sampleAt c (offset + i)])))

/-! ### Handing out -/

/-- A request taken by its owning unit, or answered by the link controller (R6, R182). -/
def State.take (s : State) : Req → Answer
  | .ident => s.takeIdent
  | .configGet pairs => s.takeConfigGet pairs
  | .configSet items => s.takeConfigSet items
  | .configSave => s.takeConfigSave
  | .syncSelect source => s.takeSyncSelect source.toNat
  | .standArm k => s.takeArm k.toNat
  | .standDisarm k => s.takeDisarm k.toNat
  | .statusRead group k => s.takeStatus group.toNat k.toNat
  | .trackRead start count => s.takeTrackRead start.toNat count.toNat
  | .scheduleStage slot rep => s.takeStage slot.toNat rep
  | .scheduleUnstage => s.takeUnstage
  | .tuneSet k items => s.takeTuneSet k.toNat items
  | .tuneCancel k => s.takeTuneCancel k.toNat
  | .monitorReset k => s.takeMonitorReset k.toNat
  | .trip k => s.takeTrip k.toNat
  | .tripClear set => s.takeTripClear set
  | .tripListRead start count => s.takeTripListRead start.toNat count.toNat
  | .zeroCal k kiss rate => s.takeZeroCal k.toNat kiss.toInt rate.toInt
  | .zeroCalAbort k => s.takeZeroCalAbort k.toNat
  | .calSave => s.takeCalSave
  | .storeErase slot => s.takeErase slot.toNat
  | .storeWrite slot data unit => s.takeWrite slot.toNat data unit
  | .storeClose slot => s.takeClose slot.toNat
  | .storeRead slot first count => s.takeRead slot.toNat first.toNat count.toNat
  | .storeStatus first => s.takeStoreStatus first.toNat
  | .traceSetup p => s.takeTraceSetup p
  | .traceArm ch => s.takeTraceArm ch.toNat
  | .traceTrigger ch => s.takeTraceTrigger ch.toNat
  | .traceStop ch => s.takeTraceStop ch.toNat
  | .traceRead ch offset count => s.takeTraceRead ch.toNat offset.toNat count.toNat
  | .subscribe exponent set => s.takeSubscribe exponent.toNat set
  | .restart => s.takeRestart
  | .unknownKind _ => s.refuse .unknownKind
  | .badLength _ => s.refuse .badLength

/-- A request is taken and its reply enters the reply slot (R182). -/
def State.answer (s : State) (tag : Byte) (req : Req) : State :=
  let a := s.take req
  a.1.putReply (reqKind req) tag a.2.1 a.2.2

/-- The request at the head of the queue is handed out when the reply slot is empty and no RESTART has been accepted (R182,
R191). -/
def State.pump (s : State) : State :=
  match s.link.slot, s.link.queue with
  | none, (tag, req) :: rest =>
    if s.link.restart = .nothing then (s.mapLink (fun l => { l with queue := rest })).answer tag req else s
  | _, _ => s

/-- A request arrives, and the head of the queue is handed out if it can be (R182). -/
def State.request (s : State) (tag : Byte) (req : Req) : State := (s.arrive tag req).pump

/-- A frame that passes is a request; one discarded is counted (R181, R182). -/
def State.rxEvent (s : State) : RxEvent → State
  | .pass f => s.request f.tag (readReq f.kind f.payload)
  | .discard => s.mapLink (fun l => { l with discards := countTo 65535 l.discards })

/-- What the receiver made of its bytes takes effect in order, so that a request sees the discards before it alone (R181, R182). -/
def State.rxEvents (s : State) (es : List RxEvent) : State := es.foldl State.rxEvent s

end Sys2Proof.Machine
end

