-- ==== Sys2Proof/Machine/Strobe.lean ====
section
/-!
DEFINITION. The cycle timebase: the strobe that begins a control cycle with all that falls on it, and the mill sync edges
(chapter 1; the order within a strobe is log 6's).
-/

namespace Sys2Proof.Machine

/-! ### SYNC reports and the timebase's own transitions at a strobe (R9, R13 to R15) -/

/-- Reasons of SYNC, by their codes: LOCKED, REJECTED, LOST, REQUALIFYING (section 1.5). -/
inductive SyncReason where
  | locked
  | rejected
  | lost
  | requalifying
  deriving DecidableEq, Repr

/-- A reason's code: its place in the table of section 1.5. -/
def SyncReason.code : SyncReason → Int
  | .locked => 0
  | .rejected => 1
  | .lost => 2
  | .requalifying => 3

/-- A SYNC report: the reason and the state entered (section 1.5). -/
def State.reportSync (s : State) (why : SyncReason) (entered : TbState) : State :=
  s.report .sync [why.code, entered.code]

/-- What struck a strobe. -/
inductive StrobeKind where
  | reference
  | edge
  | holdover
  deriving DecidableEq, Repr

/-- The timebase put into INTERNAL, its qualification fields and holdover count cleared (R9, R13, R14). -/
def Timebase.toInternal (t : Timebase) : Timebase :=
  { t.clearQual with state := .internal, pendingInternal := false, holdover := 0, switchEdge := none }

/-- The timebase put into QUALIFYING afresh (R15). -/
def Timebase.toQualifying (t : Timebase) : Timebase :=
  { t.clearQual with state := .qualifying, holdover := 0, switchEdge := none }

/-- The timebase put into LOCKED by a switching edge (R10). -/
def Timebase.toLocked (t : Timebase) : Timebase := { t.clearQual with state := .locked, holdover := 0, switchEdge := none }

/-- The timebase's transition at a strobe, with the reason it reports. A pending internal ends the state first (R14);
a rejection or a sync loss comes before a change of Tc, and a switching edge before a new Tc taken in QUALIFYING, which then
finds LOCKED (DESIGN CHOICE, log 19). A Tc changed and set back before the strobe is no change (DESIGN CHOICE, log 43).
Unsafe. -/
def Timebase.transition (t : Timebase) (kind : StrobeKind) (newPeriod : Int) : Timebase × Option SyncReason :=
  let changed := decide (newPeriod ≠ t.period)
  match t.state with
  | .internal => (t, none)
  | .qualifying =>
    if t.pendingInternal then (t.toInternal, none)
    else
      let t := if t.edgeSeen then t else { t with qualCount := t.qualCount + 1, goodRun := 0 }
      if 64 ≤ t.qualCount then (t.toInternal, some .rejected)
      else if changed then (t.toQualifying, none) else (t, none)
  | .locked =>
    if t.pendingInternal then (t.toInternal, none)
    else
      let t := if kind = .holdover then { t with holdover := t.holdover + 1 } else { t with holdover := 0 }
      if 3 ≤ t.holdover then (t.toInternal, some .lost)
      else if changed then (t.toQualifying, some .requalifying) else (t, none)

/-- The timebase with the next cycle begun at a time, under the period now in force (R2, R3). -/
def Timebase.beginCycle (t : Timebase) (len : Int) (time : Nat) (period : Int) : Timebase :=
  { t with
    cycle := t.cycle + 1, lastLen := len, lastStrobe := time, period := period, switchEdge := none, edgeSeen := false
    deadlineDone := false, updateDone := false, endTests := false }

/-! ### The stands at a strobe -/

/-- A stand added by a raise of N comes into use: every field at the value a stand added has, its channels LOST and its zero from the
calibration slot, but for what a request or a source has done since the raise: its state, target, trip record, calibration, curve and
pending override (R32, R45, R85, R110, R152). -/
def Stand.enter (st : Stand) (c : StandConf) (zero : Int × Bool) : Stand :=
  let new := Stand.unused c
  { new with
    chans := .reset true, trip := st.trip, cal := st.cal
    sc := { new.sc with
      state := st.sc.state, served := st.sc.served, target := st.sc.target, armGap := st.sc.armGap, armSpeed := st.sc.armSpeed }
    gcu := { new.gcu with zero := zero.1, zeroKnown := zero.2, curve := st.gcu.curve, pendingTune := st.gcu.pendingTune } }

/-- The configuration comes into force for the cycle, with the stands it adds and removes; a stand removed and added again within
the cycle is added (R6, R32, R45). -/
def State.bringIntoForce (s : State) : State :=
  let old := s.liveN
  let new := s.conf.n
  let load := if old < new then s.calLoad else (s, false)
  let s := { load.1 with force := s.conf, lowN := new }
  s.mapStands (fun k st =>
    if old < k ∧ k ≤ new then st.enter (s.conf.stands.get k) (s.loadedZero load.2 k)
    else if new < k then Stand.unused (s.conf.stands.get k)
    else st)

/-- The stand limits at a strobe: a change comes into force while the gap reference is RELEASED, and waits otherwise (R36).
DESIGN CHOICE, log 32: one taken in a first driven cycle before its reference is formed waits. Unsafe. -/
def StandRec.settleLimits (r : StandRec) (c : StandConf) : StandRec :=
  if r.gapRef.isNone then { r with sMin := c.sMin, sMax := c.sMax, limWait := false }
  else { r with limWait := decide (c.sMin ≠ r.sMin ∨ c.sMax ≠ r.sMax) }

/-- A stand at a strobe, before the sources: previous references and clamp status taken, marks cleared, limits settled
(R36, R39, R86, R110). -/
def Stand.strobe (st : Stand) (c : StandConf) : Stand :=
  { st with
    sc := { st.sc with prevGap := st.sc.gapRef }.settleLimits c
    gcu := { st.gcu with prevClamp := st.gcu.clamp, clamp := .clear }
    scu := st.scu.strobe }

/-- The context of stand `k` for the cycle (log 1 says what it holds). -/
def State.contextOf (s : State) (k : Nat) : Ctx :=
  let st := s.stand k
  { state := st.sc.state, served := st.sc.served, sched := s.servedSched k, target := s.targetSched k
    action := st.trip.action, phase := st.cal.phase, start := st.sc.armGap, startSpeed := st.sc.armSpeed
    curve := st.gcu.curve, zero := st.gcu.zero, monitor := st.gcu.monitor }

/-- The state of stand `k` for the cycle is fixed: its context is taken, a first reference is handed over to it, and the
thread count rises in THREADING (R35, R43, R50). -/
def State.fixStand (k : Nat) (s : State) : State :=
  let ctx := s.contextOf k
  s.mapStand k (fun st =>
    { st with
      ctx := ctx
      sc := { st.sc with
        armGap := none, armSpeed := none
        threadCount := if st.sc.state = .threading then countTo 4000 st.sc.threadCount else st.sc.threadCount } })

/-- The HOST sources of the TRIP requests taken in the cycle before (R137). -/
def State.hostSources (s : State) : List (Source × Bool) := s.trips.host.map (fun i => (⟨.host, i, none⟩, false))

/-- The sources of a strobe: sync lost, the active emergency stops, and the HOST sources (R13, R29, R123). -/
def State.strobeSources (was s : State) (why : Option SyncReason) : List (Source × Bool) :=
  (if why = some .lost then [(⟨.syncLost, none, none⟩, false)] else []) ++ State.estopSources was s ++ s.hostSources

/-- A strobe: the cycle that ends is settled, the timebase begins the next, and everything that falls on the strobe is
done before the states of the stands for the cycle are fixed (R2, R123). `s` is the state just before; `switched` says that
the strobe is a switching edge, whose report belongs to the cycle it begins (R10, section 1.5). -/
def State.strobe (s : State) (kind : StrobeKind) (switched : Bool) (len : Int) (time : Nat) (es : BitVec 4) : State :=
  let s := s.finishCycle.settleTrace.snapshotDue
  let r := s.tb.transition kind s.conf.period
  let s := { s with tb := r.1.beginCycle len time s.conf.period }
  let s := if switched then s.reportSync .locked .locked else s
  let s := match r.2 with
    | some why => s.reportSync why s.tb.state
    | none => s
  let s := s.bringIntoForce.mapLink (fun l => l.subscribeNow s.conf.n)
  let s := s.mapStands (fun k st => if k ≤ s.force.n then st.strobe (s.conf.stands.get k) else st)
  let s := s.forStands s.force.n State.settleGauge
  let was := s
  let s := s.sampleEstops es
  let srcs := State.strobeSources was s r.2
  let s := (s.mapTrips (fun t => { t with host := [] })).applySources srcs
  (s.forStands s.force.n State.fixStand).clearWords

/-! ### The three kinds of strobe and the edges (R8 to R13) -/

/-- The internal reference strikes, Tc after the last strobe, in INTERNAL and QUALIFYING (R8). -/
def State.referenceStrobe (s : State) (es : BitVec 4) : State :=
  if s.tb.state = .locked then s
  else s.strobe .reference false s.tb.period (s.tb.lastStrobe + s.tb.period.toNat) es

/-- The length of a cycle ended by a holdover strobe: 1.25 Tc, or 1 µs short of 1.5 Tc in a switching cycle (R10, R11). -/
def Timebase.holdoverLen (t : Timebase) : Nat :=
  if t.switchEdge.isSome then t.period.toNat * 3 / 2 - 1 else t.period.toNat * 5 / 4

/-- The internal reference strikes a holdover strobe in LOCKED (R10, R11). -/
def State.holdover (s : State) (es : BitVec 4) : State :=
  if s.tb.state = .locked then
    s.strobe .holdover false (s.tb.holdoverLen : Int) (s.tb.lastStrobe + s.tb.holdoverLen) es
  else s

/-- A mill edge that begins the next cycle (R10, R11). -/
def State.edgeStrobe (s : State) (switched : Bool) (time : Nat) (es : BitVec 4) : State :=
  s.strobe .edge switched ((time - s.tb.lastStrobe : Nat) : Int) time es

/-- An interval lies within 0.96 Tc to 1.04 Tc (R9). -/
def Timebase.inWindow (t : Timebase) (interval : Nat) : Bool :=
  decide (96 * t.period.toNat ≤ 100 * interval ∧ 100 * interval ≤ 104 * t.period.toNat)

/-- An edge that is counted and does not switch (R9). -/
def Timebase.countEdge (t : Timebase) (time run : Nat) : Timebase :=
  { t with goodRun := run, qualCount := t.qualCount + 1, lastEdge := some time, edgeSeen := true }

/-- Rejection when an edge has brought the qualification count to 64 (R9). -/
def State.rejectFull (s : State) : State :=
  if 64 ≤ s.tb.qualCount then (s.mapTb Timebase.toInternal).reportSync .rejected .internal else s

/-- The switching edge: LOCKED, and the strobe of the next cycle when it comes 0.5 Tc or more after the last (R10). -/
def State.switchLock (s : State) (time : Nat) (es : BitVec 4) : State :=
  let half := decide (s.tb.period.toNat ≤ 2 * (time - s.tb.lastStrobe))
  let s := s.mapTb Timebase.toLocked
  if half then s.edgeStrobe true time es
  else (s.mapTb (fun t => { t with switchEdge := some time })).reportSync .locked .locked

/-- An edge in QUALIFYING (R9, R10, R14). DESIGN CHOICE, log 53: after an edgeless strobe the interval is tested as it was measured, so
that one within the window raises the run from 0 to 1, although R9 says that it falls outside. Unsafe. -/
def State.qualifyEdge (s : State) (time : Nat) (es : BitVec 4) : State :=
  let t := s.tb
  match t.lastEdge with
  | none => (s.mapTb (fun t => t.countEdge time 0)).rejectFull
  | some last =>
    let good := t.inWindow (time - last)
    if 16 ≤ t.goodRun ∧ good then s.switchLock time es
    else (s.mapTb (fun t => t.countEdge time (if good then t.goodRun + 1 else 0))).rejectFull

/-- The edge ends the cycle in LOCKED: in the switching cycle 0.75 Tc after the switching edge and before 1.5 Tc, otherwise
from 0.75 Tc to 1.25 Tc after the last strobe (R10, R11). -/
def Timebase.accepts (t : Timebase) (time : Nat) : Bool :=
  let p := t.period.toNat
  let e := time - t.lastStrobe
  match t.switchEdge with
  | some q => decide (3 * p ≤ 4 * (time - q) ∧ 2 * e < 3 * p)
  | none => decide (3 * p ≤ 4 * e ∧ 4 * e ≤ 5 * p)

/-- A rising edge on MSYNC (R8 to R11). In QUALIFYING an edge is not tested while a pending internal waits (R14); DESIGN
CHOICE, log 37: it is not counted either. Unsafe. An edge past the strobe due is not called for (log 3). -/
def State.millEdge (s : State) (time : Nat) (es : BitVec 4) : State :=
  match s.tb.state with
  | .internal => s
  | .qualifying =>
    if s.tb.pendingInternal ∨ s.tb.period.toNat < time - s.tb.lastStrobe then s else s.qualifyEdge time es
  | .locked => if s.tb.accepts time then s.edgeStrobe false time es else s

end Sys2Proof.Machine
end

