-- ==== Sys2Proof/Machine/Resets.lean ====
section
/-!
DEFINITION. The two resets, with the strobe of cycle 0 that ends each (R7, R28, R31, R34, R62, R85, R110, R141, R152, R160,
R168, R169, R191, R192).
-/

namespace Sys2Proof.Machine

/-- The link rate in Mbit/s of the straps BRS0 (bit 0) and BRS1 (bit 1) (pin summary). -/
def strapRate (straps : BitVec 2) : Nat :=
  if straps = 0 then 1 else if straps = 1 then 2 else 4

/-- Every unit but the store and the trip list at its reset values, with the configuration and the zeros loaded; the store
and the list are those given (section 'Resets'). DESIGN CHOICE, log 1: a HOST source not yet applied is dropped. Unsafe. -/
def State.resetUnits (s : State) (rate : Nat) : State :=
  let s := { s with images := .reset }
  let loadC := s.confLoad
  let c := loadC.2
  let loadZ := loadC.1.calLoad
  let s := loadZ.1
  let stand (k : Nat) : Stand :=
    let z := s.loadedZero loadZ.2 k
    if k ≤ c.n then Stand.reset (c.stands.get k) z.1 z.2 else Stand.unused (c.stands.get k)
  { s with
    conf := c, force := c, lowN := c.n, tb := .reset c.period c.preferred
    estops := ⟨.reset, .reset, .reset, .reset⟩
    gauges := ⟨.reset false, .reset false, .reset false⟩
    stands := ⟨stand 1, stand 2, stand 3, stand 4, stand 5, stand 6, stand 7⟩
    track := .reset, trace := .reset, link := .reset rate
    trips := { s.trips with host := [] } }

/-- RESET is recorded, and its report is the first queued (R141, R192). -/
def State.recordReset (s : State) : State :=
  s.addRecord ⟨.reset, none, none⟩ ((standsTo s.conf.n).map (fun k => ⟨k, .release, .release⟩))

/-- The strobe of cycle 0 samples the emergency stops and applies their sources, whose activity began at the reset (R28,
R31, R141). -/
def State.strobeZero (s : State) (es : BitVec 4) : State :=
  let s := s.sampleEstops es
  s.applySources ((State.estopSources s s).map (fun p => (p.1, false)))

/-- A slot whose pending damage mark outlives the images is DAMAGED (R164, log 24). -/
def Store.settleAll (st : Store) : Store :=
  (List.range 42).foldl (fun st n =>
    let r := st.slotRec n
    if r.damage then st.setSlot n { r with state := .damaged, damage := false } else st) st

/-- Power-on and the reset input: the slots are classified, the trip list is emptied, the straps are sampled (R133, R153,
R160, R192). -/
def State.fullReset (s : State) (es : BitVec 4) (straps : BitVec 2) : State :=
  let s := s.cutStore
  let s := { s with store := s.store.classify, trips := ⟨[], 1, []⟩ }
  ((s.resetUnits (strapRate straps)).recordReset).strobeZero es

/-- The RESTART reset: the trip list, the store's cells and records and the fault count are kept, the store is idle, and the
link rate is not sampled again (R133, R135, R153, R191). -/
def State.restartReset (s : State) (es : BitVec 4) : State :=
  let kept := s.trips.records.map (fun (r : TripRecord) => { r with superseded := true })
  let s := { s with store := s.store.finish.settleAll, trips := { s.trips with records := kept } }
  ((s.resetUnits s.link.rate).recordReset).strobeZero es

end Sys2Proof.Machine
end

