-- ==== Sys2Proof/Machine/Events.lean ====
section
/-!
DEFINITION. The meanings of the events of the lines, the clock and the resets, one definition for each.
-/

namespace Sys2Proof.Machine

/-- POWER_ON: every unit takes its power-on values (R7, R31, R141, R160). -/
def execPowerOn (es : BitVec 4) (straps : BitVec 2) (s : State) : Host.Outcome State Fault Refusal :=
  .next (s.fullReset es straps)

/-- RESET_INPUT: acts the same as power-on (section "Resets"). -/
def execResetInput (es : BitVec 4) (straps : BitVec 2) (s : State) : Host.Outcome State Fault Refusal :=
  .next (s.fullReset es straps)

/-- RESTART_RESET: the reset of an accepted RESTART, once its reply is sent in full (R191). -/
def execRestartReset (es : BitVec 4) (s : State) : Host.Outcome State Fault Refusal :=
  .next (if s.link.restart = .due then s.restartReset es else s)

/-- INTERNAL_REFERENCE_STROBE (R8). -/
def execInternalReferenceStrobe (es : BitVec 4) (s : State) : Host.Outcome State Fault Refusal :=
  .next (s.referenceStrobe es)

/-- MILL_SYNC_EDGE (R9 to R11). -/
def execMillSyncEdge (time : Nat) (es : BitVec 4) (s : State) : Host.Outcome State Fault Refusal :=
  .next (s.millEdge time es)

/-- HOLDOVER_STROBE (R10, R11, R13). -/
def execHoldoverStrobe (es : BitVec 4) (s : State) : Host.Outcome State Fault Refusal :=
  .next (s.holdover es)

/-- SAMPLE_WORD: a word whose check fails is discarded (R17). -/
def execSampleWord (line : Nat) (raw : BitVec 24) (head : HeadStatus) (checkOk : Bool) (s : State) : Host.Outcome State Fault Refusal :=
  .next (if checkOk then s.takeWord line ⟨raw.toInt, head⟩ else s)

/-- SAMPLE_DEADLINE (R19). -/
def execSampleDeadline (s : State) : Host.Outcome State Fault Refusal :=
  .next (if s.tb.deadlineDone then s else s.deadline)

/-- TRACKER_UPDATE: once the quantities of the cycle are produced (R63). -/
def execTrackerUpdate (s : State) : Host.Outcome State Fault Refusal :=
  .next (if s.tb.deadlineDone ∧ ¬s.tb.updateDone then s.trackerUpdate else s)

/-- LOAD_CHANGE_JUDGED: the held load change of a stand, after the update (R63). -/
def execLoadChangeJudged (stand : Nat) (s : State) : Host.Outcome State Fault Refusal :=
  .next (s.judge stand)

end Sys2Proof.Machine
end

