-- ==== Sys2Proof/Machine/StoreCommands.lean ====
section
/-!
DEFINITION. The meanings of the store completions and of the requests to the table store and the working memory.
-/

namespace Sys2Proof.Machine

/-- STORE_ERASE_DONE (R154, R156). -/
def execStoreEraseDone (read : List (Nat × Entry)) (s : State) : Host.Outcome State Fault Refusal :=
  .next (s.stepDone [.erase] read)

/-- STORE_WRITE_DONE (R154, R157). -/
def execStoreWriteDone (read : List (Nat × Entry)) (s : State) : Host.Outcome State Fault Refusal :=
  .next (s.stepDone [.write] read)

/-- STORE_CLOSE_DONE (R154, R158). -/
def execStoreCloseDone (read : List (Nat × Entry)) (s : State) : Host.Outcome State Fault Refusal :=
  .next (s.stepDone [.close] read)

/-- SAVE_STEP_DONE (R151, R161). -/
def execSaveStepDone (read : List (Nat × Entry)) (s : State) : Host.Outcome State Fault Refusal :=
  .next (s.stepDone [.calSave, .configSave] read)

/-- The request CONFIG SAVE (R161). -/
def execConfigSave (tag : Byte) (s : State) : Host.Outcome State Fault Refusal :=
  .next (s.request tag .configSave)

/-- The request SCHEDULE STAGE (R163). -/
def execScheduleStage (tag : Byte) (slot : Byte) (rep : Option Byte) (s : State) : Host.Outcome State Fault Refusal :=
  .next (s.request tag (.scheduleStage slot rep))

/-- The request SCHEDULE UNSTAGE (R165). -/
def execScheduleUnstage (tag : Byte) (s : State) : Host.Outcome State Fault Refusal :=
  .next (s.request tag .scheduleUnstage)

/-- The request CAL SAVE (R151). -/
def execCalSave (tag : Byte) (s : State) : Host.Outcome State Fault Refusal :=
  .next (s.request tag .calSave)

/-- The request STORE ERASE (R156). -/
def execStoreErase (tag : Byte) (slot : Byte) (s : State) : Host.Outcome State Fault Refusal :=
  .next (s.request tag (.storeErase slot))

/-- The request STORE WRITE (R157). -/
def execStoreWrite (tag : Byte) (slot : Byte) (data : Quad) (unit : Option Byte) (s : State) : Host.Outcome State Fault Refusal :=
  .next (s.request tag (.storeWrite slot data unit))

/-- The request STORE CLOSE (R158). -/
def execStoreClose (tag : Byte) (slot : Byte) (s : State) : Host.Outcome State Fault Refusal :=
  .next (s.request tag (.storeClose slot))

/-- The request STORE READ (R159). -/
def execStoreRead (tag : Byte) (slot first count : Byte) (s : State) : Host.Outcome State Fault Refusal :=
  .next (s.request tag (.storeRead slot first count))

/-- The request STORE STATUS (R159). -/
def execStoreStatus (tag : Byte) (first : Byte) (s : State) : Host.Outcome State Fault Refusal :=
  .next (s.request tag (.storeStatus first))

end Sys2Proof.Machine
end

