-- ==== Sys2Proof/Machine/LinkCommands.lean ====
section
/-!
DEFINITION. The meanings of the commands of the link controller.
-/

namespace Sys2Proof.Machine

/-- FRAME_RECEIVED: bytes on the receive line, and the requests of the frames they complete (R181, R182). -/
def execFrameReceived (bytes : List Byte) (s : State) : Host.Outcome State Fault Refusal :=
  let buffer := s.link.rx ++ bytes
  let r := receive buffer.length buffer
  .next ((s.mapLink (fun l => { l with rx := r.2 })).rxEvents r.1)

/-- INTER_BYTE_TIMEOUT: more than 200 µs without a byte (R181). -/
def execInterByteTimeout (s : State) : Host.Outcome State Fault Refusal :=
  .next ((s.mapLink (fun l => { l with rx := [] })).rxEvents (receiveTimeout s.link.rx.length s.link.rx))

/-- UNKNOWN_KIND_REQUEST: a request whose kind byte is no request kind (R182). -/
def execUnknownKindRequest (tag kind : Byte) (s : State) : Host.Outcome State Fault Refusal :=
  .next (s.request tag (.unknownKind kind))

/-- TRANSMIT_LINE_FREE: the arbiter chooses the next frame, and the next request is handed out (R184, R185). -/
def execTransmitLineFree (s : State) : Host.Outcome State Fault Refusal :=
  .next (s.mapLink Link.lineFree).pump

/-- The request IDENT (R188). -/
def execIdent (tag : Byte) (s : State) : Host.Outcome State Fault Refusal :=
  .next (s.request tag .ident)

/-- The request CONFIG GET (R189). -/
def execConfigGet (tag : Byte) (pairs : List (Byte × Byte)) (s : State) : Host.Outcome State Fault Refusal :=
  .next (s.request tag (.configGet pairs))

/-- The request CONFIG SET (R190). -/
def execConfigSet (tag : Byte) (items : List (Byte × Byte × BitVec 32)) (s : State) : Host.Outcome State Fault Refusal :=
  .next (s.request tag (.configSet items))

/-- The request STATUS READ (R188). -/
def execStatusRead (tag : Byte) (group stand : Byte) (s : State) : Host.Outcome State Fault Refusal :=
  .next (s.request tag (.statusRead group stand))

/-- The request SUBSCRIBE (R186). -/
def execSubscribe (tag : Byte) (exponent stands : Byte) (s : State) : Host.Outcome State Fault Refusal :=
  .next (s.request tag (.subscribe exponent stands))

/-- The request RESTART (R191). -/
def execRestart (tag : Byte) (s : State) : Host.Outcome State Fault Refusal :=
  .next (s.request tag .restart)

end Sys2Proof.Machine
end

