-- ==== Sys2Proof/Machine/ControlCommands.lean ====
section
/-!
DEFINITION. The meanings of the requests to the timebase, the stands, the tracker, the gauge control unit and the trip unit.
-/

namespace Sys2Proof.Machine

/-- The request SYNC SELECT (R14). -/
def execSyncSelect (tag : Byte) (source : Byte) (s : State) : Host.Outcome State Fault Refusal :=
  .next (s.request tag (.syncSelect source))

/-- The request STAND ARM (R42, R43). -/
def execStandArm (tag : Byte) (stand : Byte) (s : State) : Host.Outcome State Fault Refusal :=
  .next (s.request tag (.standArm stand))

/-- The request STAND DISARM (R44). -/
def execStandDisarm (tag : Byte) (stand : Byte) (s : State) : Host.Outcome State Fault Refusal :=
  .next (s.request tag (.standDisarm stand))

/-- The request TRACK READ (R83). -/
def execTrackRead (tag : Byte) (start : BitVec 16) (count : Byte) (s : State) : Host.Outcome State Fault Refusal :=
  .next (s.request tag (.trackRead start count))

/-- The request TUNE SET (R105). -/
def execTuneSet (tag : Byte) (stand : Byte) (items : List (Byte × BitVec 32)) (s : State) : Host.Outcome State Fault Refusal :=
  .next (s.request tag (.tuneSet stand items))

/-- The request TUNE CANCEL (R107). -/
def execTuneCancel (tag : Byte) (stand : Byte) (s : State) : Host.Outcome State Fault Refusal :=
  .next (s.request tag (.tuneCancel stand))

/-- The request MONITOR RESET (R104). -/
def execMonitorReset (tag : Byte) (stand : Byte) (s : State) : Host.Outcome State Fault Refusal :=
  .next (s.request tag (.monitorReset stand))

/-- The request TRIP (R137). -/
def execTrip (tag : Byte) (stand : Byte) (s : State) : Host.Outcome State Fault Refusal :=
  .next (s.request tag (.trip stand))

/-- The request TRIP CLEAR (R138). -/
def execTripClear (tag : Byte) (stands : Byte) (s : State) : Host.Outcome State Fault Refusal :=
  .next (s.request tag (.tripClear stands))

/-- The request TRIP LIST READ (R140). -/
def execTripListRead (tag : Byte) (start count : Byte) (s : State) : Host.Outcome State Fault Refusal :=
  .next (s.request tag (.tripListRead start count))

/-- The request ZERO CAL (R143). -/
def execZeroCal (tag : Byte) (stand : Byte) (kiss rate : BitVec 32) (s : State) : Host.Outcome State Fault Refusal :=
  .next (s.request tag (.zeroCal stand kiss rate))

/-- The request ZERO CAL ABORT (R149). -/
def execZeroCalAbort (tag : Byte) (stand : Byte) (s : State) : Host.Outcome State Fault Refusal :=
  .next (s.request tag (.zeroCalAbort stand))

end Sys2Proof.Machine
end

