-- ==== Sys2Proof/Machine/TraceCommands.lean ====
section
/-!
DEFINITION. The meanings of the requests to the trace unit.
-/

namespace Sys2Proof.Machine

/-- The request TRACE SETUP (R172). -/
def execTraceSetup (tag : Byte) (params : TraceParams) (s : State) : Host.Outcome State Fault Refusal :=
  .next (s.request tag (.traceSetup params))

/-- The request TRACE ARM (R173). -/
def execTraceArm (tag : Byte) (channel : Byte) (s : State) : Host.Outcome State Fault Refusal :=
  .next (s.request tag (.traceArm channel))

/-- The request TRACE TRIGGER (R178). -/
def execTraceTrigger (tag : Byte) (channel : Byte) (s : State) : Host.Outcome State Fault Refusal :=
  .next (s.request tag (.traceTrigger channel))

/-- The request TRACE STOP (R179). -/
def execTraceStop (tag : Byte) (channel : Byte) (s : State) : Host.Outcome State Fault Refusal :=
  .next (s.request tag (.traceStop channel))

/-- The request TRACE READ (R180). -/
def execTraceRead (tag : Byte) (channel : Byte) (offset : BitVec 16) (count : Byte) (s : State) : Host.Outcome State Fault Refusal :=
  .next (s.request tag (.traceRead channel offset count))

end Sys2Proof.Machine
end

