-- ==== Sys2Proof/Machine/Dispatch.lean ====
section
/-!
DEFINITION. One arm per command, each one call of its meaning.
-/

namespace Sys2Proof.Machine

/-- The effect of a command on everything but the queue of waiting commands. -/
def exec (i : Instr) (s : State) : Host.Outcome State Fault Refusal :=
  match i with
  | .powerOn es straps => Sys2Proof.Machine.execPowerOn es straps s
  | .resetInput es straps => Sys2Proof.Machine.execResetInput es straps s
  | .restartReset es => Sys2Proof.Machine.execRestartReset es s
  | .internalReferenceStrobe es => Sys2Proof.Machine.execInternalReferenceStrobe es s
  | .millSyncEdge time es => Sys2Proof.Machine.execMillSyncEdge time es s
  | .holdoverStrobe es => Sys2Proof.Machine.execHoldoverStrobe es s
  | .sampleWord line raw head checkOk => Sys2Proof.Machine.execSampleWord line raw head checkOk s
  | .sampleDeadline => Sys2Proof.Machine.execSampleDeadline s
  | .trackerUpdate => Sys2Proof.Machine.execTrackerUpdate s
  | .loadChangeJudged stand => Sys2Proof.Machine.execLoadChangeJudged stand s
  | .storeEraseDone read => Sys2Proof.Machine.execStoreEraseDone read s
  | .storeWriteDone read => Sys2Proof.Machine.execStoreWriteDone read s
  | .storeCloseDone read => Sys2Proof.Machine.execStoreCloseDone read s
  | .saveStepDone read => Sys2Proof.Machine.execSaveStepDone read s
  | .frameReceived bytes => Sys2Proof.Machine.execFrameReceived bytes s
  | .interByteTimeout => Sys2Proof.Machine.execInterByteTimeout s
  | .unknownKindRequest tag kind => Sys2Proof.Machine.execUnknownKindRequest tag kind s
  | .transmitLineFree => Sys2Proof.Machine.execTransmitLineFree s
  | .ident tag => Sys2Proof.Machine.execIdent tag s
  | .configGet tag pairs => Sys2Proof.Machine.execConfigGet tag pairs s
  | .configSet tag items => Sys2Proof.Machine.execConfigSet tag items s
  | .configSave tag => Sys2Proof.Machine.execConfigSave tag s
  | .syncSelect tag source => Sys2Proof.Machine.execSyncSelect tag source s
  | .standArm tag stand => Sys2Proof.Machine.execStandArm tag stand s
  | .standDisarm tag stand => Sys2Proof.Machine.execStandDisarm tag stand s
  | .statusRead tag group stand => Sys2Proof.Machine.execStatusRead tag group stand s
  | .trackRead tag start count => Sys2Proof.Machine.execTrackRead tag start count s
  | .scheduleStage tag slot rep => Sys2Proof.Machine.execScheduleStage tag slot rep s
  | .scheduleUnstage tag => Sys2Proof.Machine.execScheduleUnstage tag s
  | .tuneSet tag stand items => Sys2Proof.Machine.execTuneSet tag stand items s
  | .tuneCancel tag stand => Sys2Proof.Machine.execTuneCancel tag stand s
  | .monitorReset tag stand => Sys2Proof.Machine.execMonitorReset tag stand s
  | .trip tag stand => Sys2Proof.Machine.execTrip tag stand s
  | .tripClear tag stands => Sys2Proof.Machine.execTripClear tag stands s
  | .tripListRead tag start count => Sys2Proof.Machine.execTripListRead tag start count s
  | .zeroCal tag stand kiss rate => Sys2Proof.Machine.execZeroCal tag stand kiss rate s
  | .zeroCalAbort tag stand => Sys2Proof.Machine.execZeroCalAbort tag stand s
  | .calSave tag => Sys2Proof.Machine.execCalSave tag s
  | .storeErase tag slot => Sys2Proof.Machine.execStoreErase tag slot s
  | .storeWrite tag slot data unit => Sys2Proof.Machine.execStoreWrite tag slot data unit s
  | .storeClose tag slot => Sys2Proof.Machine.execStoreClose tag slot s
  | .storeRead tag slot first count => Sys2Proof.Machine.execStoreRead tag slot first count s
  | .storeStatus tag first => Sys2Proof.Machine.execStoreStatus tag first s
  | .traceSetup tag params => Sys2Proof.Machine.execTraceSetup tag params s
  | .traceArm tag channel => Sys2Proof.Machine.execTraceArm tag channel s
  | .traceTrigger tag channel => Sys2Proof.Machine.execTraceTrigger tag channel s
  | .traceStop tag channel => Sys2Proof.Machine.execTraceStop tag channel s
  | .traceRead tag channel offset count => Sys2Proof.Machine.execTraceRead tag channel offset count s
  | .subscribe tag exponent stands => Sys2Proof.Machine.execSubscribe tag exponent stands s
  | .restart tag => Sys2Proof.Machine.execRestart tag s

end Sys2Proof.Machine
end

