-- ==== Sys2Proof/Safety.lean ====
section
/-!
DEFINITION. What statements about the block speak of: the request a command stands for, a link that can take a request at
once, the state with a reply in the slot, and the conditions that every step keeps.
-/

namespace Sys2Proof

/-- The request whose arrival a command is, with its tag; the commands of the lines, the clock, the cells and the raw
link bytes stand for none (section 11.5). -/
def Instr.request? : Instr → Option (Byte × Req)
  | .powerOn _ _ | .resetInput _ _ | .restartReset _ | .internalReferenceStrobe _ | .millSyncEdge _ _
  | .holdoverStrobe _ | .sampleWord _ _ _ _ | .sampleDeadline | .trackerUpdate | .loadChangeJudged _
  | .storeEraseDone _ | .storeWriteDone _ | .storeCloseDone _ | .saveStepDone _ | .frameReceived _
  | .interByteTimeout | .transmitLineFree => none
  | .unknownKindRequest tag kind => some (tag, .unknownKind kind)
  | .ident tag => some (tag, .ident)
  | .configGet tag pairs => some (tag, .configGet pairs)
  | .configSet tag items => some (tag, .configSet items)
  | .configSave tag => some (tag, .configSave)
  | .syncSelect tag source => some (tag, .syncSelect source)
  | .standArm tag stand => some (tag, .standArm stand)
  | .standDisarm tag stand => some (tag, .standDisarm stand)
  | .statusRead tag group stand => some (tag, .statusRead group stand)
  | .trackRead tag start count => some (tag, .trackRead start count)
  | .scheduleStage tag slot rep => some (tag, .scheduleStage slot rep)
  | .scheduleUnstage tag => some (tag, .scheduleUnstage)
  | .tuneSet tag stand items => some (tag, .tuneSet stand items)
  | .tuneCancel tag stand => some (tag, .tuneCancel stand)
  | .monitorReset tag stand => some (tag, .monitorReset stand)
  | .trip tag stand => some (tag, .trip stand)
  | .tripClear tag stands => some (tag, .tripClear stands)
  | .tripListRead tag start count => some (tag, .tripListRead start count)
  | .zeroCal tag stand kiss rate => some (tag, .zeroCal stand kiss rate)
  | .zeroCalAbort tag stand => some (tag, .zeroCalAbort stand)
  | .calSave tag => some (tag, .calSave)
  | .storeErase tag slot => some (tag, .storeErase slot)
  | .storeWrite tag slot data unit => some (tag, .storeWrite slot data unit)
  | .storeClose tag slot => some (tag, .storeClose slot)
  | .storeRead tag slot first count => some (tag, .storeRead slot first count)
  | .storeStatus tag first => some (tag, .storeStatus first)
  | .traceSetup tag params => some (tag, .traceSetup params)
  | .traceArm tag channel => some (tag, .traceArm channel)
  | .traceTrigger tag channel => some (tag, .traceTrigger channel)
  | .traceStop tag channel => some (tag, .traceStop channel)
  | .traceRead tag channel offset count => some (tag, .traceRead channel offset count)
  | .subscribe tag exponent stands => some (tag, .subscribe exponent stands)
  | .restart tag => some (tag, .restart)

namespace Machine

/-! ### The link -/

/-- A request that arrives is taken at once: no request is queued, the reply slot is empty and no RESTART has been
accepted (R182, R191). -/
def State.ready (s : State) : Prop := s.link.restart = .nothing ∧ s.link.queue = [] ∧ s.link.slot = none

/-- The state with a reply newly formed in the reply slot, and nothing else changed but the count of replies formed (R182,
R183). -/
def State.replied (s : State) (kind tag : Byte) (code : Code) (body : List Int) : State :=
  { s with link :=
      { s.link with
        slot := some ⟨kind, tag, code, s.tb.cycle, body, s.link.order⟩
        order := s.link.order + 1 } }

/-- The frame on the transmit line, if any, has no part left to send, and no RESTART has been accepted (R184, R191). -/
def Link.atEnd (l : Link) : Prop := l.restart = .nothing ∧ ∀ r p, l.tx = some (.reply r p) → r.parts ≤ p

/-- An event report of cycle `c` has entered the report queue, or the queue is full, the report was discarded and the
lost-report flag is set (R185). -/
def State.sent (t : State) (c : Cycle) (kind : EventKind) (fields : List Int) : Prop :=
  (⟨c, 1, 1, .event kind fields⟩ : Report) ∈ t.link.reports ∨ (32 ≤ t.link.reports.length ∧ t.link.lostFlag = true)

/-- The state with stand `k`'s record replaced. -/
def State.putStand (s : State) (k : Nat) (st : Stand) : State := { s with stands := s.stands.set k st }

/-! ### What every step keeps -/

/-- The three sparse memories are in canonical form (R153, R169). -/
def State.memoriesCanonical (s : State) : Prop :=
  Memory.wf erasedEntry s.store.cells = true ∧ Memory.wf SlotRec.blank s.store.slots = true
    ∧ Memory.wf 0 s.trace.mem = true

/-- The channel's region lies in the trace memory of 16,384 places, its write position inside the region, and it holds no more samples
than the region has places (R169, R172). -/
def TraceChan.placed (c : TraceChan) : Prop :=
  (c.length ≠ 0 → c.base + c.length ≤ 16384) ∧ (∀ p, c.wpos = some p → c.base ≤ p ∧ p < c.base + c.length) ∧ c.fill ≤ c.length

/-- The trace channels' regions never overlap, each write position lies inside its region, and no sample lies beyond the trace
memory (R169). -/
def State.regionsApart (s : State) : Prop :=
  (∀ i, i < 8 → (s.trace.chans.get i).placed)
    ∧ (∀ i j, i < 8 → j < 8 → i ≠ j →
      let a := s.trace.chans.get i
      let b := s.trace.chans.get j
      a.length = 0 ∨ b.length = 0 ∨ a.base + a.length ≤ b.base ∨ b.base + b.length ≤ a.base)
    ∧ ∀ x ∈ s.trace.mem, x.1 < 16384

/-- The bounded lists hold no more than their places: segments, bars, trip records, reports, queued requests and BUSY
replies (R59, R61, R133, R182, R185). -/
def State.withinCapacity (s : State) : Prop :=
  s.track.segs.length ≤ 256 ∧ s.track.bars.length ≤ 2 ∧ s.trips.records.length ≤ 16 ∧ s.link.reports.length ≤ 32
    ∧ s.link.queue.length ≤ 4 ∧ s.link.busy.length ≤ 4

/-- Each stand's latch is set exactly when the stand is TRIPPED (R126). -/
def State.latchesMatch (s : State) : Prop :=
  ∀ k, 1 ≤ k → k ≤ 7 → ((s.stand k).trip.latch = true ↔ (s.stand k).sc.state = .tripped)

/-- The configured limits of a stand are in order: S_min not above S_max, M_limit not negative (R33, R103). -/
def StandConf.limitsOrdered (c : StandConf) : Prop := c.sMin ≤ c.sMax ∧ 0 ≤ c.mLimit

/-- The configuration `c` holds what the ordering and ranges promise: N from 2 to 7, and every stand's limits in order (R32,
R33, R103). -/
def Conf.inOrder (c : Conf) : Prop :=
  2 ≤ c.standCount ∧ c.standCount ≤ 7 ∧ ∀ k, 1 ≤ k → k ≤ 7 → (c.stands.get k).limitsOrdered

/-- Each stand's driven gap reference lies within the stand limits in force, and its monitor offset within ±M_limit in
force; with what that rests on: the configuration and the copy in force are in order (R36, R101, R103). -/
def State.limitsHeld (s : State) : Prop :=
  s.conf.inOrder ∧ s.force.inOrder ∧ ∀ k, 1 ≤ k → k ≤ 7 →
    (s.stand k).sc.sMin ≤ (s.stand k).sc.sMax
      ∧ (∀ g, (s.stand k).sc.gapRef = some g → (s.stand k).sc.sMin ≤ g ∧ g ≤ (s.stand k).sc.sMax)
      ∧ |(s.stand k).gcu.monitor| ≤ (s.force.stands.get k).mLimit

/-! ### The schedule images -/

/-- An image named the slot `freed`, if any, and has been emptied or freed between `s` and `t`: that slot, if its damage is pending and
no image of `t` names it, is DAMAGED with the mark cleared; every other slot record, and the fault count, are as before (R164). -/
def State.damageSettled (s t : State) (freed : Option Nat) : Prop :=
  t.store.faults = s.store.faults
    ∧ ∀ n, (freed = some n ∧ (s.store.slotRec n).damage = true ∧ t.images.names n = false →
        t.store.slotRec n = { s.store.slotRec n with state := .damaged, damage := false })
      ∧ (freed ≠ some n ∨ (s.store.slotRec n).damage = false ∨ t.images.names n = true →
        t.store.slotRec n = s.store.slotRec n)

/-! ### A strobe -/

/-- All the work of the cycle that ends is done: its deadline has passed, the tracker's update is made and every load change
is judged (R4, R63). -/
def State.finished (s : State) : Prop := s.tb.deadlineDone = true ∧ s.tb.updateDone = true ∧ s.track.held = []

/-- The command is the strobe that ends the cycle in progress: the internal reference outside LOCKED, a holdover strobe in LOCKED, a
mill edge that LOCKED accepts, or the switching edge of QUALIFYING half a period or more after the last strobe (R8, R10, R11). -/
def State.struckBy (s : State) (c : Instr) (es : BitVec 4) (time : Nat) : Prop :=
  let p := s.tb.period.toNat
  let e := time - s.tb.lastStrobe
  (c = .internalReferenceStrobe es ∧ s.tb.state ≠ .locked)
    ∨ (c = .holdoverStrobe es ∧ s.tb.state = .locked)
    ∨ (c = .millSyncEdge time es ∧ s.tb.state = .locked
      ∧ ((s.tb.switchEdge = none ∧ 3 * p ≤ 4 * e ∧ 4 * e ≤ 5 * p)
        ∨ ∃ q, s.tb.switchEdge = some q ∧ 3 * p ≤ 4 * (time - q) ∧ 2 * e < 3 * p))
    ∨ (c = .millSyncEdge time es ∧ s.tb.state = .qualifying ∧ s.tb.pendingInternal = false ∧ e ≤ p ∧ p ≤ 2 * e
      ∧ 16 ≤ s.tb.goodRun
      ∧ ∃ last, s.tb.lastEdge = some last ∧ 96 * p ≤ 100 * (time - last) ∧ 100 * (time - last) ≤ 104 * p)

/-- What a strobe has fixed of stand `k` for the cycle it begins: its state, the bar it serves and its target with their schedule fields,
the action in force, the phase of calibration, the working curve, the zero and the monitor offset; and what waited for a first reference
has been handed over (R5, R6, R35, R43, R144). -/
def State.contextFixed (t : State) (k : Nat) : Prop :=
  let b := t.stand k
  b.ctx.state = b.sc.state ∧ b.ctx.served = b.sc.served ∧ b.ctx.sched = t.servedSched k ∧ b.ctx.target = t.targetSched k
    ∧ b.ctx.action = b.trip.action ∧ b.ctx.phase = b.cal.phase ∧ b.ctx.curve = b.gcu.curve ∧ b.ctx.zero = b.gcu.zero
    ∧ b.ctx.monitor = b.gcu.monitor ∧ b.sc.armGap = none ∧ b.sc.armSpeed = none

/-- What a strobe makes of stand `k`, `c` being its configuration now in force: the references and the clamp status become
those of the previous cycle, the marks are clear, a pending override has gone live, the accumulator and the monitor offset
lie within the limits in force, a change of the stand limits is in force where the reference is RELEASED and waits where it
is driven, the stand's context of the cycle is fixed, and no word of the cycle has come. The first references that a request left are
those of the new cycle unless the strobe's own sources latch or park the stand, and the thread count rises by 1 in THREADING and stays
otherwise, but for the 0 of a latch (R17, R35, R36, R39, R43, R50, R57, R86, R95, R103, R106, R110, R144). -/
def State.standAtStrobe (s t : State) (k : Nat) (c : StandConf) : Prop :=
  let a := s.stand k
  let b := t.stand k
  let iLim := b.gcu.live.iLim.getD (((s.servedSched k).map StandSched.iLim).getD 0) * 256
  t.contextFixed k ∧ b.sc.prevGap = b.sc.gapRef ∧ b.scu.prevSpeed = b.scu.speedRef
    ∧ b.gcu.clamp = .clear ∧ b.scu.trimHigh = false ∧ b.scu.trimLow = false ∧ b.scu.slewLimited = false
    ∧ b.scu.rangeLimited = false
    ∧ b.gcu.live = a.gcu.pendingTune.getD a.gcu.live ∧ b.gcu.pendingTune = none
    ∧ (0 ≤ c.mLimit → |b.gcu.monitor| ≤ c.mLimit)
    ∧ (∀ lim, b.gcu.live.iLim = some lim → 0 ≤ lim → |b.gcu.iacc| ≤ lim * 256)
    ∧ (b.sc.gapRef = none → b.sc.sMin = c.sMin ∧ b.sc.sMax = c.sMax ∧ b.sc.limWait = false)
    ∧ (b.sc.gapRef ≠ none → (b.sc.limWait = true ↔ c.sMin ≠ b.sc.sMin ∨ c.sMax ≠ b.sc.sMax))
    ∧ (s.finished → b.sc.gapRef = a.sc.gapRef ∧ b.scu.speedRef = a.scu.speedRef ∧ b.gcu.prevClamp = a.gcu.clamp
      ∧ b.gcu.monitor = max (-c.mLimit) (min c.mLimit a.gcu.monitor)
      ∧ (b.sc.state ≠ .tripped → b.gcu.iacc = max (-iLim) (min iLim a.gcu.iacc))
      ∧ (b.sc.gapRef ≠ none → b.sc.sMin = a.sc.sMin ∧ b.sc.sMax = a.sc.sMax)
      ∧ (b.trip.latch = a.trip.latch → (b.sc.state = .parked → a.sc.state = .parked) →
        b.ctx.start = a.sc.armGap ∧ b.ctx.startSpeed = a.sc.armSpeed)
      ∧ (b.trip.latch ≠ a.trip.latch ∨ (b.sc.state = .parked ∧ a.sc.state ≠ .parked) →
        b.ctx.start = none ∧ b.ctx.startSpeed = none)
      ∧ (b.sc.state = .threading → b.sc.threadCount = min 4000 (a.sc.threadCount + 1))
      ∧ (b.sc.state ≠ .threading → b.trip.latch = a.trip.latch → b.sc.threadCount = a.sc.threadCount)
      ∧ (b.trip.latch ≠ a.trip.latch → b.sc.threadCount = 0))
    ∧ b.chans.gap.word = none ∧ b.chans.force.word = none ∧ b.chans.speed.word = none

/-- What a strobe makes of stand `k` added in the cycle that ends, one removed and added again in it too, `c` being its configuration
now in force: its references are RELEASED and none has been formed, its channels begin LOST, and everything of the cycle that ends is
gone but the curve, and a pending override, which has gone live alone; its context of the cycle is fixed (R31, R32, R34, R35, R45, R85,
R110). -/
def State.addedAtStrobe (s t : State) (k : Nat) (c : StandConf) : Prop :=
  let b := t.stand k
  b.chans = .reset true ∧ t.contextFixed k ∧ b.scu = .reset
    ∧ b.sc.gapRef = none ∧ b.sc.prevGap = none ∧ b.sc.formed = none ∧ b.sc.loaded = false ∧ b.sc.loadKnown = false
    ∧ b.sc.loadOnRun = 0 ∧ b.sc.loadOffRun = 0 ∧ b.sc.posRun = 0 ∧ b.sc.followRun = .zero ∧ b.sc.runawayRun = .zero
    ∧ (b.sc.state ≠ .threading → b.sc.threadCount = 0)
    ∧ b.sc.sMin = c.sMin ∧ b.sc.sMax = c.sMax ∧ b.sc.limWait = false
    ∧ b.gcu.q = .absent ∧ b.gcu.qPrev = .absent ∧ b.gcu.clamp = .clear ∧ b.gcu.prevClamp = .clear
    ∧ (0 ≤ c.mLimit → b.gcu.monitor = 0)
    ∧ (∀ lim, b.gcu.live.iLim = some lim → 0 ≤ lim → b.gcu.iacc = 0)
    ∧ (s.finished → b.gcu.live.iLim = none → (s.stand k).sc.served = none → b.gcu.iacc = 0)
    ∧ b.gcu.live = (s.stand k).gcu.pendingTune.getD .empty ∧ b.gcu.pendingTune = none

/-- An emergency-stop input after one sample: the state changes at the second sample in a row against it (R28). -/
def Estop.afterSample (e e' : Estop) (high : Bool) : Prop :=
  e'.level = high
    ∧ (high ≠ e.active → e'.active = e.active ∧ e'.run = 0)
    ∧ (high = e.active → e.run = 0 → e'.active = e.active ∧ e'.run = 1)
    ∧ (high = e.active → 1 ≤ e.run → e'.active = !e.active ∧ e'.run = 0)

/-- `t` is the state after a strobe on `s` that gives the new cycle the length `len` and lies at `time`: the cycle is
counted, the configuration as CONFIG SET left it is in force, the stops are sampled and each change of one is reported with
the new cycle's count, and each stand that was configured throughout the cycle that ends is as `standAtStrobe` says, one
added in it, also after its removal in it, as `addedAtStrobe` says, and the stands beyond N are unused. The link's requests and replies, the store's
cells and its operation do not move (R2, R3, R6, R16, R28, R29, R32). -/
def State.startsCycle (s t : State) (len : Int) (time : Nat) (es : BitVec 4) : Prop :=
  t.pending = s.pending ∧ t.conf = s.conf ∧ t.force = s.conf ∧ t.lowN = s.conf.n ∧ t.fresh = s.fresh
    ∧ t.tb.cycle = s.tb.cycle + 1 ∧ t.tb.lastLen = len ∧ t.tb.lastStrobe = time ∧ t.tb.period = s.conf.period
    ∧ t.tb.deadlineDone = false ∧ t.tb.updateDone = false ∧ t.tb.switchEdge = none
    ∧ (∀ i, i < 4 → (s.estops.get i).afterSample (t.estops.get i) (es.getLsbD i))
    ∧ (∀ i, i < 4 → (t.estops.get i).active ≠ (s.estops.get i).active →
      t.sent (s.tb.cycle + 1) .measurement [if (t.estops.get i).active then 4 else 5, (i : Int), absentMarker])
    ∧ t.trips.host = [] ∧ t.store.cells = s.store.cells ∧ t.store.op = s.store.op ∧ t.store.mark = s.store.mark
    ∧ (t.link.rx = s.link.rx ∧ t.link.queue = s.link.queue ∧ t.link.slot = s.link.slot ∧ t.link.busy = s.link.busy
      ∧ t.link.tx = s.link.tx ∧ t.link.seq = s.link.seq ∧ t.link.discards = s.link.discards
      ∧ t.link.overruns = s.link.overruns ∧ t.link.rate = s.link.rate ∧ t.link.restart = s.link.restart)
    ∧ (∀ k, 1 ≤ k → k ≤ 7 → k ≤ s.conf.n → k ≤ s.lowN → k ≤ s.force.n → s.standAtStrobe t k (s.conf.stands.get k))
    ∧ (∀ k, 1 ≤ k → s.lowN < k ∨ s.force.n < k → k ≤ 7 → k ≤ s.conf.n → s.addedAtStrobe t k (s.conf.stands.get k))
    ∧ ∀ k, s.conf.n < k → k ≤ 7 → t.stand k = .unused (s.conf.stands.get k)

end Machine

end Sys2Proof
end

