-- ==== Sys2Proof/WellFormed.lean ====
section
/-!
DEFINITION. Which commands are well formed: those that the lines, the link or the cells can send. An ill-formed command
still has a meaning (it reaches nothing, or draws the reply of R182); the check names what a sender can really send.
-/

namespace Sys2Proof

/-- A request as its payload can hold it: the item counts and the kind byte that section 11.6 allows. -/
def Req.wellFormed : Req → Bool
  | .configGet pairs => decide (1 ≤ pairs.length ∧ pairs.length ≤ 40)
  | .configSet items => decide (1 ≤ items.length ∧ items.length ≤ 40)
  | .tuneSet _ items => decide (1 ≤ items.length ∧ items.length ≤ 13)
  | .unknownKind kind => decide (kind.toNat = 0 ∨ 32 < kind.toNat)
  | .badLength kind => decide (1 ≤ kind.toNat ∧ kind.toNat ≤ 32)
  | _ => true

/-- Read-back deviations name entries of the slot from `lo` to `hi`, each at most once. -/
def readWellFormed (lo hi : Nat) (read : List (Nat × Entry)) : Bool :=
  read.all (fun p => decide (lo ≤ p.1 ∧ p.1 ≤ hi)) && decide (read.map Prod.fst).Nodup

/-- The well-formed commands: a sensor line is one of SIN0 to SIN23 (R17), a stand one of 1 to 7, read-back deviations
lie inside the slot (R156 to R158), a byte string is not empty, an unknown kind is no request kind (R182), and the
request payloads hold the item counts of section 11.6. -/
def Instr.wellFormed : Instr → Bool
  | .sampleWord line _ _ _ => decide (line < 24)
  | .loadChangeJudged stand => decide (1 ≤ stand ∧ stand ≤ 7)
  | .storeEraseDone read => readWellFormed 0 255 read
  | .storeWriteDone read => readWellFormed 0 251 read
  | .storeCloseDone read => readWellFormed 252 255 read
  | .saveStepDone read => readWellFormed 0 255 read
  | .frameReceived bytes => !bytes.isEmpty
  | .unknownKindRequest _ kind => (Req.unknownKind kind).wellFormed
  | .configGet _ pairs => (Req.configGet pairs).wellFormed
  | .configSet _ items => (Req.configSet items).wellFormed
  | .tuneSet _ stand items => (Req.tuneSet stand items).wellFormed
  | _ => true

end Sys2Proof
end

