-- ==== Sys2Proof/Certificates/Slice0/Obligations.lean ====
section
/-!
DEFINITION. The statements about the block, in the order of OBLIGATIONS.json: the step and the link, the resets, the
timebase, the deadline of a cycle, the tracker, the table store, the requests unit by unit, and what every step keeps.
-/

open Sys2Proof Sys2Proof.Machine

/-! ### The step and the link -/

/-- A step takes the command at the front of the queue and runs it on the state with the queue's rest. On an empty queue the
block idles, which is the model's choice (log 2). -/
def Obligations.StepRunsFrontCommand : Prop :=
  (∀ (c : Instr) (rest : List Instr) (s : State),
      step { s with pending := c :: rest } = exec c { s with pending := rest })
    ∧ ∀ s : State, s.pending = [] → step s = .next s

/-- No command ends in a fault or a refusal: in every state it answers a next state, whose queue of waiting commands is the
same. That nothing stops the part is the model's reading of a manual that names no stop (DEDUCED, log 30); it says nothing of
what a command does. -/
def Obligations.EveryCommandCompletes : Prop :=
  ∀ (c : Instr) (s : State), ∃ t, exec c s = .next t ∧ t.pending = s.pending

/-- A request that reaches a ready link is taken at once by its unit, and the reply, carrying the request's kind and tag, the
cycle count and the stamp of its formation, stands in the reply slot; nothing else changes but what the unit did. One that
arrives while a reply stands in the slot, or after an accepted RESTART, joins the request queue; with four queued it is
answered BUSY in the busy list; with four answered there it is lost and counted; it has no other effect. That a ready link
takes a request without delay is the model's choice (log 10). -/
def Obligations.RequestArrives : Prop :=
  ∀ (c : Instr) (tag : Byte) (req : Req) (s : State), c.request? = some (tag, req) →
    (s.ready → exec c s = .next ((s.take req).1.replied (reqKind req) tag (s.take req).2.1 (s.take req).2.2))
    ∧ (s.link.slot ≠ none ∨ s.link.restart ≠ .nothing →
      (s.link.queue.length < 4 →
        exec c s = .next { s with link := { s.link with queue := s.link.queue ++ [(tag, req)] } })
      ∧ (4 ≤ s.link.queue.length → s.link.busy.length < 4 →
        exec c s = .next { s with link := { s.link with
          busy := s.link.busy ++ [⟨reqKind req, tag, .busy, s.tb.cycle, [], s.link.order⟩]
          order := s.link.order + 1 } })
      ∧ (4 ≤ s.link.queue.length → 4 ≤ s.link.busy.length →
        exec c s = .next { s with link := { s.link with overruns := min 65535 (s.link.overruns + 1) } }))

/-- The payload of every well-formed request reads back as that request, and fits a frame. -/
def Obligations.RequestRoundTrip : Prop :=
  ∀ r : Req, r.wellFormed = true → (∀ k, r ≠ .badLength k) →
    readReq (reqKind r) (reqPayload r) = r ∧ (reqPayload r).length ≤ 250

/-- The bytes of a request's frame are taken however they are cut: the last bytes of a frame complete it and its request is
taken; a piece that is not yet the whole frame is kept; bytes without a sync byte are skipped while hunting; a frame whose
check value is wrong, or whose length byte is above 250, is discarded and counted; frames passed and discarded take effect in their
order, so that a request sees the discards before it alone. -/
def Obligations.FrameReceived : Prop :=
  ∀ s : State, s.link.discards ≤ 65535 →
    (∀ (r : Req) (tag : Byte) (bytes : List Byte), s.ready → r.wellFormed = true → (∀ k, r ≠ .badLength k) →
      s.link.rx ++ bytes = frameBytes (reqKind r) tag (reqPayload r) →
      let s' : State := { s with link := { s.link with rx := [] } }
      exec (.frameReceived bytes) s
        = .next ((s'.take r).1.replied (reqKind r) tag (s'.take r).2.1 (s'.take r).2.2))
    ∧ (∀ (r : Req) (tag : Byte) (bytes more : List Byte), r.wellFormed = true → (∀ k, r ≠ .badLength k) → more ≠ [] →
      s.link.rx ++ bytes ++ more = frameBytes (reqKind r) tag (reqPayload r) →
      exec (.frameReceived bytes) s = .next { s with link := { s.link with rx := s.link.rx ++ bytes } })
    ∧ (∀ bytes : List Byte, s.link.rx = [] → 0xA5#8 ∉ bytes → exec (.frameReceived bytes) s = .next s)
    ∧ (∀ (kind tag a b : Byte) (payload : List Byte), s.link.rx = [] → payload.length ≤ 250 →
      0xA5#8 ∉ kind :: tag :: BitVec.ofNat 8 payload.length :: (payload ++ [a, b]) →
      [a, b] ≠ bytes16 (crc16 (kind :: tag :: BitVec.ofNat 8 payload.length :: payload)) →
      exec (.frameReceived (0xA5#8 :: kind :: tag :: BitVec.ofNat 8 payload.length :: (payload ++ [a, b]))) s
        = .next { s with link := { s.link with discards := min 65535 (s.link.discards + 1) } })
    ∧ ∀ (kind tag len : Byte) (rest : List Byte), s.link.rx = [] → 250 < len.toNat → 0xA5#8 ∉ kind :: tag :: len :: rest →
      let bad := 0xA5#8 :: kind :: tag :: len :: rest
      let dropped (s : State) : State := { s with link := { s.link with discards := min 65535 (s.link.discards + 1) } }
      exec (.frameReceived bad) s = .next (dropped s)
      ∧ ∀ (r : Req) (tag : Byte), s.ready → r.wellFormed = true → (∀ k, r ≠ .badLength k) →
        let whole := frameBytes (reqKind r) tag (reqPayload r)
        let answered (s : State) : State := (s.take r).1.replied (reqKind r) tag (s.take r).2.1 (s.take r).2.2
        exec (.frameReceived (whole ++ bad)) s = .next (dropped (answered s))
        ∧ exec (.frameReceived (bad ++ whole)) s = .next (answered (dropped s))

/-- More than 200 µs without a byte discards the frame being received, counts it, and the receiver hunts again; while it
hunts, nothing happens. The frame's bytes after its sync byte hold no further sync byte here. -/
def Obligations.InterByteTimeout : Prop :=
  ∀ s : State,
    (∀ rest : List Byte, s.link.rx = 0xA5#8 :: rest → 0xA5#8 ∉ rest →
      exec .interByteTimeout s
        = .next { s with link := { s.link with rx := [], discards := min 65535 (s.link.discards + 1) } })
    ∧ (s.link.rx = [] → s.link.discards ≤ 65535 → exec .interByteTimeout s = .next s)

/-- Replies that no unit forms, replies in parts, and reports. A request of no known kind is answered UNKNOWN_KIND, with the kind byte 0xFF;
one whose payload length does not suit its kind, for each of the 32 kinds, is answered BAD_LENGTH; nothing else happens. A reply of more
than 250 payload bytes goes in parts of 243 body bytes, which together are its body. An event report that finds no free place is discarded and sets the
lost-report flag. In a subscribed cycle whose count is a multiple of 2^n, the strobe that ends it, of whatever source, queues the
snapshot of its stands, in one frame or, above four stands, in two, or skips and counts it with fewer than four places free; in any
other cycle there is none. The model's choices are that the settlement's reports come before the snapshot and all others of the strobe
after it (logs 6 and 9), that the snapshot has R187's twelve quantities without the speed marks that R116 speaks of (log 41), and that
its header carries the count of its own cycle (log 51). The kind byte of a BUSY reply to a request of no known kind, 0x80 plus the byte
that came modulo 256, is a choice of the model too (log 50). -/
def Obligations.RepliesAndReports : Prop :=
  (∀ (tag kind : Byte) (s : State), s.ready →
      exec (.unknownKindRequest tag kind) s = .next (s.replied kind tag .unknownKind []))
    ∧ (∀ (tag kind : Byte) (cycle : Cycle) (order : Nat),
      (Reply.mk kind tag .unknownKind cycle [] order).frame 1 = frameBytes 0xFF tag (3#8 :: 1#8 :: 1#8 :: bytes32 cycle))
    ∧ (∀ (tag kind : Byte) (payload : List Byte) (s : State), s.ready → s.link.rx = [] → payload.length ≤ 250 →
      s.link.discards ≤ 65535 → readReq kind payload = .badLength kind →
      exec (.frameReceived (frameBytes kind tag payload)) s = .next (s.replied kind tag .badLength []))
    ∧ (∀ p ∈ ([(0x01#8, 0), (0x04#8, 0), (0x05#8, 1), (0x06#8, 1), (0x07#8, 1), (0x08#8, 2), (0x09#8, 3), (0x0B#8, 0),
        (0x0D#8, 1), (0x0E#8, 1), (0x0F#8, 1), (0x10#8, 1), (0x11#8, 2), (0x12#8, 9), (0x13#8, 1), (0x14#8, 0), (0x15#8, 1),
        (0x17#8, 1), (0x18#8, 3), (0x19#8, 1), (0x1A#8, 15), (0x1B#8, 1), (0x1C#8, 1), (0x1D#8, 1), (0x1E#8, 4),
        (0x1F#8, 2), (0x20#8, 0)] : List (Byte × Nat)),
      ∀ payload : List Byte, payload.length ≠ p.2 → readReq p.1 payload = .badLength p.1)
    ∧ (∀ payload : List Byte,
      let n := payload.length
      (n < 2 ∨ 80 < n ∨ n % 2 ≠ 0 → readReq 0x02 payload = .badLength 0x02)
      ∧ (n < 6 ∨ 240 < n ∨ n % 6 ≠ 0 → readReq 0x03 payload = .badLength 0x03)
      ∧ (n < 1 ∨ 2 < n → readReq 0x0A payload = .badLength 0x0A)
      ∧ (n < 6 ∨ 66 < n ∨ n % 5 ≠ 1 → readReq 0x0C payload = .badLength 0x0C)
      ∧ (n < 9 ∨ 10 < n → readReq 0x16 payload = .badLength 0x16))
    ∧ (∀ r : Reply,
      let body := r.body.flatMap fieldBytes
      (body.length + 7 ≤ 250 → r.parts = 1)
      ∧ (250 < body.length + 7 → r.parts = (body.length + 242) / 243)
      ∧ ((List.range r.parts).map (fun i => r.partBody (i + 1))).flatten = body
      ∧ (∀ p, 1 ≤ p → p < r.parts → (r.partBody p).length = 243)
      ∧ ∀ p, 1 ≤ p → p ≤ r.parts → (r.partBody p).length ≤ 243
        ∧ r.frame p = frameBytes (if r.code = .unknownKind then 0xFF else 0x80 + r.kind) r.tag
            (BitVec.ofNat 8 r.code.value :: BitVec.ofNat 8 p :: BitVec.ofNat 8 r.parts :: (bytes32 r.cycle ++ r.partBody p)))
    ∧ (∀ (s : State) (kind : EventKind) (fields : List Int),
      (s.link.reports.length < 32 →
        s.report kind fields = { s with link := { s.link with
          reports := s.link.reports ++ [⟨s.tb.cycle, 1, 1, .event kind fields⟩] } })
      ∧ (32 ≤ s.link.reports.length → s.report kind fields = { s with link := { s.link with lostFlag := true } }))
    ∧ ∀ (c : Instr) (es : BitVec 4) (time : Nat) (s : State), s.struckBy c es time → s.finished →
      ∃ t rest, exec c s = .next t
        ∧ (let row (k : Nat) : Nat × List Int :=
            let st := s.stand k
            (k, [st.ctx.state.code, if st.sc.loaded then 1 else 0, st.chans.gap.value, st.chans.force.value,
              st.chans.speed.value, optField st.gcu.q.hEst, optField st.gcu.q.eRaw, refField st.sc.gapRef,
              refField st.scu.speedRef, optField st.scu.trim, st.gcu.clamp.code, st.gcu.monitor])
          let frame (part parts : Nat) (ks : List Nat) : Report :=
            ⟨s.tb.cycle, part, parts, .snapshot s.link.skipped (ks.map row)⟩
          let before := s.settleTrace.link.reports
          let due (x : Subscription) : Prop := s.link.sub = some x ∧ s.tb.cycle.toNat % 2 ^ x.exponent = 0
          ((∀ x, ¬due x) → t.link.reports = before ++ rest ∧ t.link.skipped = s.link.skipped)
          ∧ (∀ x, due x → 28 < before.length →
            t.link.reports = before ++ rest ∧ t.link.skipped = min 255 (s.link.skipped + 1))
          ∧ (∀ x, due x → before.length ≤ 28 → x.stands.length ≤ 4 →
            t.link.reports = before ++ frame 1 1 x.stands :: rest ∧ t.link.skipped = 0)
          ∧ (∀ x, due x → before.length ≤ 28 → 4 < x.stands.length →
            t.link.reports = before ++ frame 1 2 (x.stands.take 4) :: frame 2 2 (x.stands.drop 4) :: rest
              ∧ t.link.skipped = 0)
          ∧ ∀ r ∈ rest, r.cycle = s.tb.cycle + 1)

/-- What the arbiter starts on a free line: the next part of the reply in transmission; else the oldest formed reply of the
slot and the busy list; else the oldest report, with its sequence number and the lost-report flag; else nothing. When the
slot becomes empty the request at the head of the queue is taken. That a report takes the number held before it rises, so
that the first one carries 0, is the model's choice (log 11). -/
def Obligations.TransmitOrder : Prop :=
  ∀ s : State,
    (∀ r p, s.link.restart = .nothing → (s.link.queue = [] ∨ s.link.slot ≠ none) → s.link.tx = some (.reply r p) →
      p < r.parts →
      exec .transmitLineFree s = .next { s with link := { s.link with tx := some (.reply r (p + 1)) } })
    ∧ (∀ r, s.link.atEnd → s.link.queue = [] → s.link.slot = some r → (∀ b ∈ s.link.busy.head?, r.order ≤ b.order) →
      exec .transmitLineFree s = .next { s with link := { s.link with tx := some (.reply r 1), slot := none } })
    ∧ (∀ r tag req rest, s.link.atEnd → s.link.queue = (tag, req) :: rest → s.link.slot = some r →
      (∀ b ∈ s.link.busy.head?, r.order ≤ b.order) →
      let s' : State := { s with link := { s.link with tx := some (.reply r 1), slot := none, queue := rest } }
      exec .transmitLineFree s
        = .next ((s'.take req).1.replied (reqKind req) tag (s'.take req).2.1 (s'.take req).2.2))
    ∧ (∀ b rest, s.link.atEnd → (s.link.queue = [] ∨ s.link.slot ≠ none) → s.link.busy = b :: rest →
      (∀ r ∈ s.link.slot, b.order < r.order) →
      exec .transmitLineFree s = .next { s with link := { s.link with tx := some (.reply b 1), busy := rest } })
    ∧ (∀ p rest, s.link.atEnd → s.link.queue = [] → s.link.slot = none → s.link.busy = [] → s.link.reports = p :: rest →
      exec .transmitLineFree s
        = .next { s with link := { s.link with
            tx := some (.report s.link.seq s.link.lostFlag p), reports := rest, lostFlag := false
            seq := if s.link.seq < 65535 then s.link.seq + 1 else 0 } })
    ∧ (s.link.atEnd → s.link.queue = [] → s.link.slot = none → s.link.busy = [] → s.link.reports = [] →
      exec .transmitLineFree s = .next { s with link := { s.link with tx := none } })

/-! ### Resets -/

/-- Power-on and the reset input put the timebase, the emergency-stop inputs, the gauge channels, the tracker, the working
memory, the store's operation and mark, the trace unit and the link controller at their reset values; the trip list holds the
RESET record alone and its report is the only one queued; the cells keep what they hold when no operation was in flight.
Every slot is classified from its contents, the slot of the operation mark as DAMAGED, with the map and the cursor that its
written units give, and no fault is counted; the configuration is that of the configuration slot where this is VALID, else
the defaults, and is the same in force as configured. Time 0 as the time of the last strobe is the model's choice (log 1), and so
is that a slot whose erased check value is its CRC is VALID also where it was OPEN (log 42). The configuration slot is read by its
table. -/
def Obligations.ResetUnits : Prop :=
  (∀ (es : BitVec 4) (straps : BitVec 2) (s : State) (c : Instr),
    c = .powerOn es straps ∨ c = .resetInput es straps →
    ∃ t, exec c s = .next t ∧ t.pending = s.pending ∧ t.force = t.conf ∧ t.lowN = t.conf.n
      ∧ t.tb = Timebase.reset t.conf.period t.conf.preferred
      ∧ (∀ i, i < 4 → (t.estops.get i).active = true ∧ (t.estops.get i).level = es.getLsbD i
          ∧ (t.estops.get i).run = if es.getLsbD i then 1 else 0)
      ∧ t.gauges = ⟨.reset false, .reset false, .reset false⟩
      ∧ (s.memoriesCanonical →
        t.store.faults = 0
        ∧ t.conf = (if (t.store.slotRec 41).state = .valid then (Conf.ofSlot (t.store.entry 41)).clamped.singleBinding
            else .default)
        ∧ (∀ m, m < 42 → s.store.mark = some m → (t.store.slotRec m).state = .damaged)
        ∧ ∀ m, m < 42 →
          let r := t.store.slotRec m
          let blank : Prop := ∀ e, e < 256 → t.store.entry m e = 65535#16
          let closed : Prop := (∀ e, 252 ≤ e → e < 255 → t.store.entry m e = 65535#16)
            ∧ t.store.entry m 255 = crc16 (((List.range 252).map (t.store.entry m)).flatMap entryBytes)
          let written (u : Nat) : Prop := ∃ i, i < 4 ∧ t.store.entry m (4 * u + i) ≠ 65535#16
          r.damage = false
          ∧ (s.store.mark ≠ some m → (blank → r.state = .blank) ∧ (¬blank → closed → r.state = .valid)
            ∧ (¬blank → ¬closed → r.state = .damaged))
          ∧ (∀ u, u < 63 → (r.map.getLsbD u = true ↔ written u))
          ∧ ((∀ u, u < 63 → ¬written u) → r.cursor = 0)
          ∧ ∀ u, u < 63 → written u → (∀ v, u < v → v < 63 → ¬written v) → r.cursor = u + 1)
      ∧ t.track = ⟨[], [], 0, 1, []⟩ ∧ t.images = ⟨none, none, none⟩
      ∧ t.store.op = none ∧ t.store.mark = none ∧ (s.store.op = none → t.store.cells = s.store.cells)
      ∧ t.trace.mem = [] ∧ (∀ ch, ch < 8 → t.trace.chans.get ch = .reset)
      ∧ (∃ r, t.trips.records = [r] ∧ r.number = 1 ∧ r.kind = .reset ∧ r.cycle = 0 ∧ r.index = none ∧ r.bar = none)
      ∧ t.trips.next = 2 ∧ t.trips.host = []
      ∧ (∃ p, t.link = { Link.reset (if straps = 0 then 1 else if straps = 1 then 2 else 4) with reports := [p] }
          ∧ ∃ fields, p.body = .event .trip fields))
    ∧ ∀ e : Nat → Entry,
      let c := Conf.ofSlot e
      let u (i : Nat) : Int := ((e i).toNat : Int)
      [c.standCount, c.period, c.preferred, c.zones.z1, c.zones.z2, c.zones.z3, c.zones.z4, c.zones.z5, c.zones.z6,
        c.release, c.wEarly, c.wHead, c.wTail, c.clearance] = (List.range 14).map u
      ∧ (∀ g, g < 3 →
        let x := c.gauges.get (g + 1)
        x.zone = u (14 + 4 * g) ∧ x.dist = u (15 + 4 * g) ∧ x.bound = (if u (16 + 4 * g) = 0 then 0 else 1)
          ∧ x.divider = u (17 + 4 * g))
      ∧ (∀ ch, ch < 24 → (c.scaling ch).gain = (e (26 + 3 * ch)).toInt
        ∧ (c.scaling ch).offset = (e (27 + 3 * ch) ++ e (28 + 3 * ch)).toInt)
      ∧ (∀ k, k < 7 →
        let x := c.stands.get (k + 1)
        [x.fOn, x.fOff, x.tolerance, x.followLimit, x.nFollow, x.runawayLimit, x.nRun, x.sMin, x.sMax, x.curveSlot,
          x.escapeGap, x.escapeSlew, x.mLimit, x.tLimit, x.speedSlew, x.speedRamp]
          = (List.range 16).map (fun i => u (98 + 16 * k + i)))
      ∧ ∀ r, r < 15 →
        let x := c.matrix.row r
        0 ≤ x.own ∧ x.own < 8 ∧ 0 ≤ x.same ∧ x.same < 8 ∧ 0 ≤ x.other ∧ x.other < 8
          ∧ u (210 + r) = x.own + 8 * x.same + 64 * x.other + 512 * x.withdraw

/-- After power-on or the reset input every configured stand is TRIPPED, latched by RESET with RELEASE and all four lines,
unloaded, serving no bar, both references RELEASED, its channels LOST, no trim, no curve and no calibration; its zero is that
of the calibration slot where this is VALID and holds one in range, else 0 and not known; the four permissive lines are low.
What the records of the numbers beyond N hold, and the zeros of a calibration record that has run none, are the model's choice
(log 1). -/
def Obligations.ResetStands : Prop :=
  ∀ (es : BitVec 4) (straps : BitVec 2) (s : State) (c : Instr),
    c = .powerOn es straps ∨ c = .resetInput es straps →
    ∃ t, exec c s = .next t ∧ 2 ≤ t.conf.n ∧ t.conf.n ≤ 7
      ∧ (∀ i, i < 4 → t.lineLevel i = false)
      ∧ (s.memoriesCanonical → ∀ k, 1 ≤ k → k ≤ 7 → k ≤ t.conf.n →
        let z := (t.store.entry 40 (k - 1)).toInt
        let held : Prop := (t.store.slotRec 40).state = .valid ∧ -5000 ≤ z ∧ z ≤ 10000
        (held → (t.stand k).gcu.zero = z ∧ (t.stand k).gcu.zeroKnown = (t.store.entry 40 7).getLsbD (k - 1))
        ∧ (¬held → (t.stand k).gcu.zero = 0 ∧ (t.stand k).gcu.zeroKnown = false))
      ∧ (∀ k, 1 ≤ k → k ≤ t.conf.n →
        (t.stand k).sc.state = .tripped ∧ (t.stand k).sc.loaded = false ∧ (t.stand k).sc.served = none
          ∧ (t.stand k).sc.gapRef = none ∧ (t.stand k).scu = .reset ∧ (t.stand k).cal = .reset
          ∧ (t.stand k).chans = .reset true ∧ (t.stand k).lostSrc = true
          ∧ (t.stand k).gcu.curve = none ∧ (t.stand k).gcu.iacc = 0 ∧ (t.stand k).gcu.monitor = 0
          ∧ (t.stand k).gcu.q = .absent ∧ (t.stand k).gcu.live = .empty ∧ (t.stand k).gcu.pendingTune = none
          ∧ (t.stand k).trip.latch = true ∧ (t.stand k).trip.action = .release ∧ (t.stand k).trip.union = 15#4
          ∧ (⟨.reset, none⟩ : SourceId) ∈ (t.stand k).trip.sources)
      ∧ ∀ k, t.conf.n < k → k ≤ 7 → t.stand k = Stand.unused (t.conf.stands.get k)

/-- The RESTART reset, once due, keeps the cells, the link rate and the trip records, the youngest 15 of 16, as they stand but that later
clears do not mark them, adds a RESET record of every configured stand that takes the next number, and begins cycle 0 with every
configured stand TRIPPED and no bar, no staged schedule and no operation. The fault count is kept, and configuration and zeros are
loaded again from their slots, where these are VALID and pass their checks. That nothing happens while it is not due is the model's
choice (log 4), and so is time 0 for the last strobe (log 1). -/
def Obligations.RestartReset : Prop :=
  ∀ (es : BitVec 4) (s : State),
    (s.link.restart ≠ .due → exec (.restartReset es) s = .next s)
    ∧ (s.link.restart = .due → s.trips.records.length ≤ 16 →
      ∃ t, exec (.restartReset es) s = .next t ∧ t.pending = s.pending ∧ t.force = t.conf
        ∧ t.tb = Timebase.reset t.conf.period t.conf.preferred
        ∧ (s.memoriesCanonical → (s.store.slotRec 40).damage = false → (s.store.slotRec 41).damage = false →
          ((s.store.slotRec 40).state = .valid → s.store.slotCrc 40 = s.store.entry 40 255) →
          ((s.store.slotRec 41).state = .valid → s.store.slotCrc 41 = s.store.entry 41 255) →
          t.store.faults = s.store.faults
          ∧ t.conf = (if (s.store.slotRec 41).state = .valid then (Conf.ofSlot (s.store.entry 41)).clamped.singleBinding
              else .default)
          ∧ ∀ k, 1 ≤ k → k ≤ 7 → k ≤ t.conf.n → ((t.stand k).gcu.zero, (t.stand k).gcu.zeroKnown)
            = if (s.store.slotRec 40).state = .valid then zeroOfSlot (s.store.entry 40) k else (0, false))
        ∧ t.store.cells = s.store.cells ∧ t.store.op = none ∧ t.store.mark = none
        ∧ t.track = ⟨[], [], 0, 1, []⟩ ∧ t.images = ⟨none, none, none⟩ ∧ t.trace.mem = []
        ∧ (∃ r, t.trips.records
              = (s.trips.records.drop (s.trips.records.length - 15)).map (fun x => { x with superseded := true }) ++ [r]
            ∧ r.kind = .reset ∧ r.number = s.trips.next ∧ r.cycle = 0 ∧ r.index = none ∧ r.bar = none ∧ r.snap = none
            ∧ r.cleared = false ∧ r.superseded = false
            ∧ r.affected = ([1, 2, 3, 4, 5, 6, 7].filter (fun k => decide (k ≤ t.conf.n))).map (fun k => ⟨k, .release, .release⟩))
        ∧ t.trips.next = (if s.trips.next < 65535 then s.trips.next + 1 else 1)
        ∧ (∃ p, t.link = { Link.reset s.link.rate with reports := [p] })
        ∧ ∀ k, 1 ≤ k → k ≤ t.conf.n →
          (t.stand k).sc.state = .tripped ∧ (t.stand k).trip.latch = true ∧ (t.stand k).sc.gapRef = none)

/-! ### The timebase -/

/-- In INTERNAL and QUALIFYING the internal reference begins the next cycle Tc after the last strobe, with the length Tc;
INTERNAL stays INTERNAL, a pending internal ends QUALIFYING, and an edgeless strobe of QUALIFYING is counted; the one that
brings the count to 64 ends qualification with SYNC REJECTED. That this comes before a change of Tc of the same strobe is the
model's choice (log 19), and so is that the command does nothing in LOCKED (log 4). A new Tc starts qualification again. That a Tc
changed and set back in one cycle is no new Tc is the model's choice too (log 43), and so is that a MEASUREMENT report of an input
has a third field, absent (log 12). What a
strobe makes of the stands (`startsCycle`) rests on choices of the model too: that the record of a stand beyond N is at an unused
stand's values (log 1), that a pending override of a stand added in the cycle goes live (log 18), that the first references are kept from
the request to the strobe, and that a change of the limits taken in the first driven cycle before its reference is formed waits (log 32). -/
def Obligations.ReferenceStrobe : Prop :=
  ∀ (es : BitVec 4) (s : State),
    (s.tb.state = .locked → exec (.internalReferenceStrobe es) s = .next s)
    ∧ (s.tb.state ≠ .locked →
      ∃ t, exec (.internalReferenceStrobe es) s = .next t
        ∧ s.startsCycle t s.tb.period (s.tb.lastStrobe + s.tb.period.toNat) es
        ∧ (s.tb.state = .internal → t.tb.state = .internal)
        ∧ (s.tb.state = .qualifying → s.tb.pendingInternal = true →
          t.tb.state = .internal ∧ t.tb.pendingInternal = false ∧ t.tb.qualCount = 0)
        ∧ (s.tb.state = .qualifying → s.tb.pendingInternal = false → s.tb.edgeSeen = false → 63 ≤ s.tb.qualCount →
          t.tb.state = .internal ∧ t.tb.qualCount = 0 ∧ t.tb.goodRun = 0 ∧ t.tb.lastEdge = none
            ∧ t.sent (s.tb.cycle + 1) .sync [1, 0])
        ∧ (s.tb.state = .qualifying → s.tb.pendingInternal = false → s.tb.edgeSeen = false → s.tb.qualCount < 63 →
          s.conf.period = s.tb.period →
          t.tb.state = .qualifying ∧ t.tb.qualCount = s.tb.qualCount + 1 ∧ t.tb.goodRun = 0
            ∧ t.tb.lastEdge = s.tb.lastEdge)
        ∧ (s.tb.state = .qualifying → s.tb.pendingInternal = false → s.tb.edgeSeen = true → s.tb.qualCount < 64 →
          s.conf.period = s.tb.period →
          t.tb.state = .qualifying ∧ t.tb.qualCount = s.tb.qualCount ∧ t.tb.goodRun = s.tb.goodRun)
        ∧ (s.tb.state = .qualifying → s.tb.pendingInternal = false →
          s.tb.qualCount < 63 ∨ (s.tb.edgeSeen = true ∧ s.tb.qualCount < 64) → s.conf.period ≠ s.tb.period →
          t.tb.state = .qualifying ∧ t.tb.qualCount = 0 ∧ t.tb.goodRun = 0 ∧ t.tb.lastEdge = none ∧ t.tb.holdover = 0))

/-- An edge in INTERNAL, or in QUALIFYING while a pending internal waits, has no effect. In QUALIFYING the first edge sets the
last edge time; each later one that does not switch raises the good-interval run when its interval lies within 0.96 Tc to
1.04 Tc and returns it to 0 otherwise; each counts in the qualification count, and the one that brings it to 64 ends
qualification in INTERNAL with SYNC REJECTED. The switching edge, a good interval with the run at 16, enters LOCKED with the
qualification fields cleared; when it comes 0.5 Tc or more after the last strobe it begins the next cycle, of that length; when
it comes sooner it is no strobe, and SYNC LOCKED is sent in the cycle in progress. The model's choices are that an edge is one
no later than the strobe due (log 3), that one under a pending internal is not counted either (log 37), that a new Tc
waiting at a switching edge that is the strobe makes QUALIFYING of LOCKED at once (log 19), that a Tc changed and set back in one
cycle is no new Tc (log 43), that an edge after an edgeless strobe is tested by its measured interval, so that one within the window raises
the run to 1 (log 53), that an edge that rejects is forgotten with the other fields, so that it does not count for a qualification begun in
the same cycle (log 54), and that a MEASUREMENT report of an input has a third field, absent (log 12). What a
strobe makes of the stands (`startsCycle`) rests on choices of the model too: that the record of a stand beyond N is at an unused
stand's values (log 1), that a pending override of a stand added in the cycle goes live (log 18), that the first references are kept from
the request to the strobe, and that a change of the limits taken in the first driven cycle before its reference is formed waits (log 32). -/
def Obligations.QualifyingEdge : Prop :=
  ∀ (time : Nat) (es : BitVec 4) (s : State),
    (s.tb.state = .internal → exec (.millSyncEdge time es) s = .next s)
    ∧ (s.tb.state = .qualifying → s.tb.pendingInternal = true → exec (.millSyncEdge time es) s = .next s)
    ∧ (s.tb.state = .qualifying → s.tb.pendingInternal = false → time - s.tb.lastStrobe ≤ s.tb.period.toNat →
      let good (last : Nat) : Prop :=
        96 * s.tb.period.toNat ≤ 100 * (time - last) ∧ 100 * (time - last) ≤ 104 * s.tb.period.toNat
      let counted (run : Nat) : State :=
        { s with tb := { s.tb with
          goodRun := run, qualCount := s.tb.qualCount + 1, lastEdge := some time, edgeSeen := true } }
      let rejected : State :=
        { s with tb := { s.tb with
          state := .internal, goodRun := 0, qualCount := 0, lastEdge := none, edgeSeen := false
          pendingInternal := false, holdover := 0, switchEdge := none } }
      (s.tb.qualCount < 63 →
        (s.tb.lastEdge = none → exec (.millSyncEdge time es) s = .next (counted 0))
        ∧ (∀ last, s.tb.lastEdge = some last → good last → s.tb.goodRun < 16 →
          exec (.millSyncEdge time es) s = .next (counted (s.tb.goodRun + 1)))
        ∧ (∀ last, s.tb.lastEdge = some last → ¬good last → exec (.millSyncEdge time es) s = .next (counted 0)))
      ∧ (63 ≤ s.tb.qualCount → (∀ last, s.tb.lastEdge = some last → ¬(good last ∧ 16 ≤ s.tb.goodRun)) →
        exec (.millSyncEdge time es) s = .next (rejected.report .sync [1, 0])))
    ∧ ∀ last : Nat,
      s.tb.state = .qualifying → s.tb.pendingInternal = false → time - s.tb.lastStrobe ≤ s.tb.period.toNat →
      s.tb.lastEdge = some last → 16 ≤ s.tb.goodRun →
      96 * s.tb.period.toNat ≤ 100 * (time - last) → 100 * (time - last) ≤ 104 * s.tb.period.toNat →
      (s.tb.period.toNat ≤ 2 * (time - s.tb.lastStrobe) →
        ∃ t, exec (.millSyncEdge time es) s = .next t
          ∧ s.startsCycle t ((time - s.tb.lastStrobe : Nat) : Int) time es
          ∧ t.tb.holdover = 0 ∧ t.tb.goodRun = 0 ∧ t.tb.qualCount = 0 ∧ t.tb.lastEdge = none
          ∧ t.sent (s.tb.cycle + 1) .sync [0, 2]
          ∧ t.tb.state = (if s.conf.period = s.tb.period then .locked else .qualifying))
      ∧ (2 * (time - s.tb.lastStrobe) < s.tb.period.toNat →
        let t : State :=
          { s with tb := { s.tb with
            state := .locked, goodRun := 0, qualCount := 0, lastEdge := none, edgeSeen := false, holdover := 0
            switchEdge := some time } }
        exec (.millSyncEdge time es) s = .next (t.report .sync [0, 2]))

/-- In LOCKED an edge earlier than 0.75 Tc after the last strobe (in a switching cycle: after the switching edge) is ignored;
one from 0.75 Tc to 1.25 Tc (in a switching cycle: before 1.5 Tc from the last strobe) begins the next cycle with its own
length and returns the holdover count to 0. A pending internal then gives INTERNAL, and a changed Tc gives QUALIFYING, with its
fields cleared and SYNC REQUALIFYING. That a Tc changed and set back in one cycle is no changed Tc is the model's choice (log 43), and
so is that a MEASUREMENT report of an input has a third field, absent (log 12). What a
strobe makes of the stands (`startsCycle`) rests on choices of the model too: that the record of a stand beyond N is at an unused
stand's values (log 1), that a pending override of a stand added in the cycle goes live (log 18), that the first references are kept from
the request to the strobe, and that a change of the limits taken in the first driven cycle before its reference is formed waits (log 32). -/
def Obligations.LockedEdge : Prop :=
  ∀ (time : Nat) (es : BitVec 4) (s : State), s.tb.state = .locked →
    (s.tb.switchEdge = none → 4 * (time - s.tb.lastStrobe) < 3 * s.tb.period.toNat →
      exec (.millSyncEdge time es) s = .next s)
    ∧ (∀ q, s.tb.switchEdge = some q → 4 * (time - q) < 3 * s.tb.period.toNat →
      exec (.millSyncEdge time es) s = .next s)
    ∧ ((s.tb.switchEdge = none ∧ 3 * s.tb.period.toNat ≤ 4 * (time - s.tb.lastStrobe)
          ∧ 4 * (time - s.tb.lastStrobe) ≤ 5 * s.tb.period.toNat)
        ∨ (∃ q, s.tb.switchEdge = some q ∧ 3 * s.tb.period.toNat ≤ 4 * (time - q)
          ∧ 2 * (time - s.tb.lastStrobe) < 3 * s.tb.period.toNat) →
      ∃ t, exec (.millSyncEdge time es) s = .next t
        ∧ s.startsCycle t ((time - s.tb.lastStrobe : Nat) : Int) time es ∧ t.tb.holdover = 0
        ∧ (s.tb.pendingInternal = true → t.tb.state = .internal ∧ t.tb.pendingInternal = false)
        ∧ (s.tb.pendingInternal = false →
          t.tb.state = if s.conf.period = s.tb.period then .locked else .qualifying)
        ∧ (s.tb.pendingInternal = false → s.conf.period ≠ s.tb.period →
          t.tb.qualCount = 0 ∧ t.tb.goodRun = 0 ∧ t.tb.lastEdge = none ∧ t.sent (s.tb.cycle + 1) .sync [3, 1]))

/-- In LOCKED the internal reference begins a cycle of 1.25 Tc, or of 1 µs less than 1.5 Tc in a switching cycle, and raises
the holdover count; the third in a row ends LOCKED in INTERNAL with SYNC LOST, unless a pending internal ends it first. That
the loss comes before a change of Tc of the same strobe is the model's choice (log 19), and so is that the command does nothing
outside LOCKED (log 4). A changed Tc before the third gives QUALIFYING with SYNC REQUALIFYING. That a Tc changed and set back in one
cycle is no changed Tc is the model's choice too (log 43), and so is that a MEASUREMENT report of an input has a third field, absent
(log 12). What a
strobe makes of the stands (`startsCycle`) rests on choices of the model too: that the record of a stand beyond N is at an unused
stand's values (log 1), that a pending override of a stand added in the cycle goes live (log 18), that the first references are kept from
the request to the strobe, and that a change of the limits taken in the first driven cycle before its reference is formed waits (log 32). -/
def Obligations.HoldoverStrobe : Prop :=
  ∀ (es : BitVec 4) (s : State),
    (s.tb.state ≠ .locked → exec (.holdoverStrobe es) s = .next s)
    ∧ (s.tb.state = .locked →
      let len : Nat :=
        if s.tb.switchEdge.isSome then s.tb.period.toNat * 3 / 2 - 1 else s.tb.period.toNat * 5 / 4
      ∃ t, exec (.holdoverStrobe es) s = .next t ∧ s.startsCycle t (len : Int) (s.tb.lastStrobe + len) es
        ∧ (s.tb.pendingInternal = true →
          t.tb.state = .internal ∧ t.tb.pendingInternal = false ∧ t.tb.holdover = 0)
        ∧ (s.tb.pendingInternal = false → s.tb.holdover < 2 → s.conf.period = s.tb.period →
          t.tb.state = .locked ∧ t.tb.holdover = s.tb.holdover + 1)
        ∧ (s.tb.pendingInternal = false → s.tb.holdover < 2 → s.conf.period ≠ s.tb.period →
          t.tb.state = .qualifying ∧ t.tb.holdover = 0 ∧ t.tb.qualCount = 0 ∧ t.tb.goodRun = 0 ∧ t.tb.lastEdge = none
            ∧ t.sent (s.tb.cycle + 1) .sync [3, 1])
        ∧ (s.tb.pendingInternal = false → 2 ≤ s.tb.holdover →
          t.tb.state = .internal ∧ t.tb.holdover = 0 ∧ t.sent (s.tb.cycle + 1) .sync [2, 0]))

/-! ### Measurements and the deadline -/

/-- A sample word that passes its check before the deadline is kept as the word of its channel's cycle, the last one to come,
and nothing else changes; one that fails its check, comes late, or belongs to a channel not in use or to a gauge outside its
sample cycles, changes nothing. -/
def Obligations.SampleWordKept : Prop :=
  ∀ (line : Nat) (raw : BitVec 24) (head : HeadStatus) (ok : Bool) (s : State),
    ((ok = false ∨ s.tb.deadlineDone = true) → exec (.sampleWord line raw head ok) s = .next s)
    ∧ (ok = true → s.tb.deadlineDone = false →
      let k := line / 3 + 1
      let w : Option SampleWord := some ⟨raw.toInt, head⟩
      let c := (s.stand k).chans
      (line < 21 → s.force.n < k → exec (.sampleWord line raw head ok) s = .next s)
      ∧ (line < 21 → k ≤ s.force.n → line % 3 = 0 →
        exec (.sampleWord line raw head ok) s
          = .next (s.putStand k { s.stand k with chans := { c with gap := { c.gap with word := w } } }))
      ∧ (line < 21 → k ≤ s.force.n → line % 3 = 1 →
        exec (.sampleWord line raw head ok) s
          = .next (s.putStand k { s.stand k with chans := { c with force := { c.force with word := w } } }))
      ∧ (line < 21 → k ≤ s.force.n → line % 3 = 2 →
        exec (.sampleWord line raw head ok) s
          = .next (s.putStand k { s.stand k with chans := { c with speed := { c.speed with word := w } } }))
      ∧ (21 ≤ line → line < 24 →
        let g := line - 20
        (s.tb.cycle.toNat % 2 ^ (s.force.gauges.get g).divider.toNat = 0 →
          exec (.sampleWord line raw head ok) s
            = .next { s with gauges := s.gauges.set g { s.gauges.get g with word := w } })
        ∧ (s.tb.cycle.toNat % 2 ^ (s.force.gauges.get g).divider.toNat ≠ 0 →
          exec (.sampleWord line raw head ok) s = .next s)))

/-- At the deadline every channel in use takes its sample, scaled, clamped and marked, or misses it: from OK it is HELD for three
misses, and LOST with the fourth. The lost condition of a stand's channel is set as it becomes LOST and ends with the second
sample in a row. A gauge channel ages alike, in its sample cycles only, and has no lost condition. MEASUREMENT reports, stand by
stand, each channel that goes from HELD to LOST or from LOST to OK and then the stand's measurement lost source where it became
active or inactive, and last the gauges; no other is sent. That a second deadline of a cycle does nothing is the model's choice
(log 4), and so are the order of the stands and gauges (logs 7 and 9), and that a report has always three fields (log 12). A stand
removed in the cycle has no active source, also where it is added again in it (log 18). -/
def Obligations.DeadlineChannels : Prop :=
  ∀ s : State,
    (s.tb.deadlineDone = true → exec .sampleDeadline s = .next s)
    ∧ (s.tb.deadlineDone = false →
      ∃ t, exec .sampleDeadline s = .next t ∧ t.tb = { s.tb with deadlineDone := true }
        ∧ t.pending = s.pending ∧ t.conf = s.conf ∧ t.force = s.force ∧ t.estops = s.estops ∧ t.fresh = s.fresh
        ∧ t.store.cells = s.store.cells ∧ t.trace.mem = s.trace.mem
        ∧ (∀ k i, 1 ≤ k → k ≤ 7 → k ≤ s.force.n → i < 3 →
          let f := s.force.stands.get k
          let x := if i = 0 then f.gapScale else if i = 1 then f.forceScale else f.speedScale
          let top : Int := if i = 0 then 60000 else if i = 1 then 40000 else 25000
          let c := (s.stand k).chans.get i
          let d := (t.stand k).chans.get i
          (∀ w, c.word = some w → w.head ≠ .fault →
            let sum := Int.tdiv (w.raw * x.gain) 65536 + x.offset
            d.value = max 0 (min top sum) ∧ d.overRange = decide (sum < 0 ∨ top < sum ∨ w.head = .overRange)
              ∧ d.status = .ok ∧ d.age = 0 ∧ d.misses = c.misses
              ∧ (c.lostCond = false → d.lostCond = false)
              ∧ (c.lostCond = true → c.recovery = 0 → d.lostCond = true ∧ d.recovery = 1)
              ∧ (c.lostCond = true → 1 ≤ c.recovery → d.lostCond = false ∧ d.recovery = 0))
          ∧ ((∀ w, c.word = some w → w.head = .fault) →
            d.value = c.value ∧ d.overRange = c.overRange ∧ d.misses = min 65535 (c.misses + 1) ∧ d.recovery = 0
              ∧ (c.status = .ok → d.status = .held ∧ d.age = 1 ∧ d.lostCond = c.lostCond)
              ∧ (c.status = .held → c.age < 3 → d.status = .held ∧ d.age = c.age + 1 ∧ d.lostCond = c.lostCond)
              ∧ (c.status = .held → 3 ≤ c.age → d.status = .lost ∧ d.age = 4 ∧ d.lostCond = true)
              ∧ (c.status = .lost → d.status = .lost ∧ d.age = 4 ∧ d.lostCond = c.lostCond)))
        ∧ (s.force.n ≤ 7 →
          let moved (c d : Chan) (ch owner : Nat) : List (List Int) :=
            if c.status = .held ∧ d.status = .lost then [[0, (ch : Int), (owner : Int)]]
            else if c.status = .lost ∧ d.status = .ok then [[1, (ch : Int), (owner : Int)]]
            else []
          let source (k : Nat) : List (List Int) :=
            let lost : Bool := decide (k ≤ s.conf.n ∧ k ≤ s.lowN) && [0, 1, 2].any (fun i => ((t.stand k).chans.get i).lostCond)
            if lost = true ∧ (s.stand k).lostSrc = false then [[2, absentMarker, (k : Int)]]
            else if lost = false ∧ (s.stand k).lostSrc = true then [[3, absentMarker, (k : Int)]]
            else []
          let due : List (List Int) :=
            (List.range s.force.n).flatMap (fun j =>
              [0, 1, 2].flatMap (fun i => moved ((s.stand (j + 1)).chans.get i) ((t.stand (j + 1)).chans.get i) (3 * j + i) (j + 1))
                ++ source (j + 1))
              ++ [1, 2, 3].flatMap (fun g => moved (s.gauges.get g) (t.gauges.get g) (20 + g) g)
          (∀ f ∈ due, t.sent s.tb.cycle .measurement f)
          ∧ (s.link.reports.length + due.length ≤ 32 →
            ∃ rest, t.link.reports
                = s.link.reports ++ due.map (fun f => ⟨s.tb.cycle, 1, 1, .event .measurement f⟩) ++ rest
              ∧ ∀ r ∈ rest, ∀ f, r.body ≠ .event .measurement f))
        ∧ ∀ g, 1 ≤ g → g ≤ 3 →
          let f := s.force.gauges.get g
          let c := s.gauges.get g
          let d := t.gauges.get g
          (s.tb.cycle.toNat % 2 ^ f.divider.toNat ≠ 0 → d = c)
          ∧ (s.tb.cycle.toNat % 2 ^ f.divider.toNat = 0 →
            (∀ w, c.word = some w → w.head ≠ .fault →
              d.value = max 0 (min 30000 (Int.tdiv (w.raw * f.scale.gain) 65536 + f.scale.offset))
                ∧ d.overRange = decide (Int.tdiv (w.raw * f.scale.gain) 65536 + f.scale.offset < 0
                  ∨ 30000 < Int.tdiv (w.raw * f.scale.gain) 65536 + f.scale.offset ∨ w.head = .overRange)
                ∧ d.status = .ok ∧ d.age = 0 ∧ d.misses = c.misses ∧ d.lastSample = some s.tb.cycle)
            ∧ ((∀ w, c.word = some w → w.head = .fault) →
              d.value = c.value ∧ d.overRange = c.overRange ∧ d.misses = min 65535 (c.misses + 1)
                ∧ d.lastSample = c.lastSample
                ∧ (c.status = .ok → d.status = .held ∧ d.age = 1)
                ∧ (c.status = .held → c.age < 3 → d.status = .held ∧ d.age = c.age + 1)
                ∧ (c.status = .held → 3 ≤ c.age → d.status = .lost ∧ d.age = 4)
                ∧ (c.status = .lost → d.status = .lost ∧ d.age = 4))))

/-- The force test of every stand in force for the cycle, made at the deadline, also of one that a lowering of N has removed in the
cycle. A LOST force channel leaves flag and runs; the first force after a reset
sets the flag alone. Then two cycles at or above F_on make an unloaded stand loaded, three cycles below F_off make a loaded stand
unloaded, both runs return to 0 there, and any other cycle returns the run to 0. A load-on in READY, and a load-off in THREADING
or ROLLING, is held for the tracker until its update is made. That the test of a stand removed in the cycle is made to the cycle's end
is the model's choice (log 18). -/
def Obligations.LoadDetection : Prop :=
  ∀ (s : State) (k : Nat), s.tb.deadlineDone = false → 1 ≤ k → k ≤ 7 → k ≤ s.force.n →
    ∃ t, exec .sampleDeadline s = .next t
      ∧ (let r := (s.stand k).sc
        let u := (t.stand k).sc
        let f := s.force.stands.get k
        let force := (t.stand k).chans.force
        let is (loaded : Bool) (on off : Nat) : Prop := u.loaded = loaded ∧ u.loadOnRun = on ∧ u.loadOffRun = off
        (force.status = .lost → u.loadKnown = r.loadKnown ∧ is r.loaded r.loadOnRun r.loadOffRun)
          ∧ (force.status ≠ .lost → u.loadKnown = true)
          ∧ (force.status ≠ .lost → r.loadKnown = false → is (decide (f.fOn ≤ force.value)) r.loadOnRun r.loadOffRun)
          ∧ (force.status ≠ .lost → r.loadKnown = true → r.loaded = false →
            (force.value < f.fOn → is false 0 r.loadOffRun)
            ∧ (f.fOn ≤ force.value → r.loadOnRun = 0 → is false 1 r.loadOffRun)
            ∧ (f.fOn ≤ force.value → 1 ≤ r.loadOnRun →
              is true 0 0 ∧ (r.state = .ready → ⟨k, true⟩ ∈ t.track.held)))
          ∧ (force.status ≠ .lost → r.loadKnown = true → r.loaded = true →
            (f.fOff ≤ force.value → is true r.loadOnRun 0)
            ∧ (force.value < f.fOff → r.loadOffRun < 2 → is true r.loadOnRun (r.loadOffRun + 1))
            ∧ (force.value < f.fOff → 2 ≤ r.loadOffRun →
              is false 0 0 ∧ (r.state = .threading ∨ r.state = .rolling → ⟨k, false⟩ ∈ t.track.held))))

/-- The quantities of the cycle by the stand's state for the cycle: none in PARKED, CALIBRATING and TRIPPED; the thickness
estimate alone in POSITIONING, READY and TAILOUT; estimate and raw error in THREADING and ROLLING. The estimate is gap less
zero plus stretch, within 0 to 65,535; the raw error is the thickness reference less the estimate with the monitor offset
of the cycle before. The quantities before are kept as those of the previous cycle. -/
def Obligations.DeadlineEstimate : Prop :=
  ∀ (s : State) (k : Nat), s.tb.deadlineDone = false → 1 ≤ k → k ≤ 7 → k ≤ s.force.n →
    ∃ t, exec .sampleDeadline s = .next t
      ∧ (let c := (s.stand k).ctx
        let q := (t.stand k).gcu.q
        let hEst : Int := max 0 (min 65535
          ((t.stand k).chans.gap.value - c.zero + stretch (curveOf c.curve) (t.stand k).chans.force.value))
        (t.stand k).gcu.qPrev = (s.stand k).gcu.q ∧ (t.stand k).ctx = c
          ∧ (c.state = .parked ∨ c.state = .calibrating ∨ c.state = .tripped → q = .absent)
          ∧ (c.state = .positioning ∨ c.state = .ready ∨ c.state = .tailout →
            q = { Quantities.absent with hEst := some hEst })
          ∧ ∀ x, c.state = .threading ∨ c.state = .rolling → c.sched = some x →
            q.hEst = some hEst ∧ q.eRaw = some (x.hRef - (hEst + c.monitor)))

/-- The stretch of a working curve: at or below the first force the first stretch; between two points the line through them,
truncated; beyond the last force the line through the last two points, carried on; and always within 0 to 20,000 µm. -/
def Obligations.StretchOfCurve : Prop :=
  (∀ (ps : List (Int × Int)) (f : Int), 0 ≤ stretch ps f ∧ stretch ps f ≤ 20000)
    ∧ (∀ (p : Int × Int) (ps : List (Int × Int)) (f : Int), f ≤ p.1 →
      stretch (p :: ps) f = max 0 (min 20000 p.2))
    ∧ (∀ (pre post : List (Int × Int)) (a b : Int × Int) (f : Int),
      (pre ++ a :: b :: post).Pairwise (fun x y => x.1 < y.1) → a.1 < f → f ≤ b.1 →
      stretch (pre ++ a :: b :: post) f
        = max 0 (min 20000 (a.2 + Int.tdiv ((f - a.1) * (b.2 - a.2)) (b.1 - a.1))))
    ∧ ∀ (pre : List (Int × Int)) (a b : Int × Int) (f : Int),
      (pre ++ [a, b]).Pairwise (fun x y => x.1 < y.1) → b.1 < f →
      stretch (pre ++ [a, b]) f = max 0 (min 20000 (a.2 + Int.tdiv ((f - a.1) * (b.2 - a.2)) (b.1 - a.1)))

/-- In THREADING and ROLLING the quantized error has the sign of the raw error and its magnitude cut down to a multiple of
2^q, q being the live override's or else the bar copy's; it is the raw error for q = 0 and 0 below 2^q; and the error is the
quantized error within the error limits, whose clamp sets the error mark of its side. -/
def Obligations.QuantizedError : Prop :=
  ∀ (s : State) (k : Nat) (x : StandSched), s.tb.deadlineDone = false → 1 ≤ k → k ≤ 7 → k ≤ s.force.n →
    (s.stand k).ctx.state = .threading ∨ (s.stand k).ctx.state = .rolling → (s.stand k).ctx.sched = some x →
    ∃ t eRaw eq, exec .sampleDeadline s = .next t
      ∧ (let live := (s.stand k).gcu.live
        let q : Nat := (live.q.getD x.q).toNat
        let eNeg := if (s.stand k).ctx.state = .threading then x.eNegSt else live.eNeg.getD x.eNeg
        let ePos := if (s.stand k).ctx.state = .threading then x.ePosSt else live.ePos.getD x.ePos
        (t.stand k).gcu.q.eRaw = some eRaw
          ∧ (0 ≤ eRaw → 0 ≤ eq) ∧ (eRaw ≤ 0 → eq ≤ 0) ∧ eq.natAbs = eRaw.natAbs / 2 ^ q * 2 ^ q
          ∧ (q = 0 → eq = eRaw) ∧ (eRaw.natAbs < 2 ^ q → eq = 0)
          ∧ (t.stand k).gcu.q.e = some (max (-eNeg) (min ePos eq))
          ∧ (t.stand k).gcu.clamp.errHigh = decide (ePos < eq) ∧ (t.stand k).gcu.clamp.errLow = decide (eq < -eNeg))

/-- In THREADING and ROLLING, with the error e of the cycle: the accumulator takes e·Ki/2^shift unless windup holds it, within
±I_lim·256; the integral is its 256th part; the correction adds e·Kp/2^shift; the gap correction is C·G/256 within −Lo to
+Hi; and the gap reference is S0 + S_base + ΔS, at most one slew from the previous one and within the stand limits. The
fields are the live override's where it has them, else the bar copy's, and the threading slew and limits are the start-up
ones. The output mark high is set when the gap correction, the slew or the stand limit held the value down, the mark low when
one of them held it up, and windup holds the accumulator by the marks of the cycle before. -/
def Obligations.CorrectionAndReference : Prop :=
  ∀ (s : State) (k : Nat) (x0 : StandSched), s.tb.deadlineDone = false → 1 ≤ k → k ≤ 7 → k ≤ s.force.n →
    (s.stand k).ctx.state = .threading ∨ (s.stand k).ctx.state = .rolling → (s.stand k).ctx.sched = some x0 →
    let st := s.stand k
    let x := x0.tuned st.gcu.live
    let slew := if st.ctx.state = .threading then x.startSlew else x.rollSlew
    0 ≤ slew →
    ∃ t e acc, exec .sampleDeadline s = .next t
      ∧ (let q := (t.stand k).gcu.q
        let held : Prop := x.windup = true ∧ ((st.gcu.prevClamp.outHigh = true ∧ 0 < e)
          ∨ (st.gcu.prevClamp.outLow = true ∧ e < 0))
        let i := Int.tdiv acc 256
        let c := Int.tdiv (e * x.kp) (2 ^ x.kpShift.toNat) + i
        let d := max (-x.lo) (min x.hi (Int.tdiv (c * x.g) 256))
        let demand := st.ctx.zero + x.sBase + d
        let near := match st.sc.prevGap with
          | none => demand
          | some p => max (p - slew) (min (p + slew) demand)
        let r := max st.sc.sMin (min st.sc.sMax near)
        q.e = some e
          ∧ (held → acc = max (-(x.iLim * 256)) (min (x.iLim * 256) st.gcu.iacc))
          ∧ (¬held → acc = max (-(x.iLim * 256)) (min (x.iLim * 256)
              (st.gcu.iacc + Int.tdiv (e * x.ki) (2 ^ x.kiShift.toNat))))
          ∧ q.i = some i ∧ q.c = some c ∧ q.dS = some d ∧ q.sRef = some r
          ∧ (let raw := Int.tdiv (c * x.g) 256
            (t.stand k).gcu.prevClamp = st.gcu.prevClamp
            ∧ ((t.stand k).gcu.clamp.outHigh = true
              ↔ x.hi < raw ∨ (∃ p, st.sc.prevGap = some p ∧ p + slew < demand) ∨ st.sc.sMax < near)
            ∧ ((t.stand k).gcu.clamp.outLow = true
              ↔ raw < -x.lo ∨ (∃ p, st.sc.prevGap = some p ∧ demand < p - slew) ∨ near < st.sc.sMin))
          ∧ (st.sc.sMin ≤ st.sc.sMax → (t.stand k).sc.gapRef = some r)
          ∧ ((t.stand k).sc.state ≠ .tripped → (t.stand k).sc.served = st.sc.served → (t.stand k).gcu.iacc = acc))

/-- In TRIPPED the gap reference follows the action in force: HOLD repeats the previous one; OPEN raises it by the escape slew
and not beyond the escape target, and repeats it at or above the target; RELEASE is RELEASED. A RELEASED reference stays
RELEASED, and a driven one never falls. -/
def Obligations.TrippedGapReference : Prop :=
  ∀ (s : State) (k : Nat), s.tb.deadlineDone = false → 1 ≤ k → k ≤ 7 → k ≤ s.force.n →
    (s.stand k).ctx.state = .tripped →
    ∃ t, exec .sampleDeadline s = .next t
      ∧ (let st := s.stand k
        let f := s.force.stands.get k
        let target := max st.sc.sMin (min st.sc.sMax f.escapeGap)
        let r := (t.stand k).sc.gapRef
        (st.ctx.action = .release → r = none)
          ∧ (st.sc.prevGap = none → r = none)
          ∧ ∀ p, st.sc.prevGap = some p → st.sc.sMin ≤ p → p ≤ st.sc.sMax → 0 ≤ f.escapeSlew →
            (st.ctx.action = .hold → r = some p)
            ∧ (st.ctx.action = .opening → target ≤ p → r = some p)
            ∧ (st.ctx.action = .opening → p < target → r = some (min target (p + f.escapeSlew)))
            ∧ (st.ctx.action ≠ .release → ∃ g, r = some g ∧ p ≤ g ∧ g ≤ st.sc.sMax))

/-- In POSITIONING the gap reference is the arming gap in the first cycle and then moves toward the target gap by at most the
rolling slew. With no bar in the train and no trip of the stand in the cycle, a cycle with the reference at the target gap,
the gap within the tolerance and its channel not LOST raises the positioning run, the eighth makes the stand READY, and any
other cycle returns the run to 0. Cases in which the target changes within the cycle are shut out (log 39). That the first cycle has
no slew also where the stand was parked and armed in one cycle is the model's choice (log 38). In READY the reference moves toward the
target gap in the same way; in TAILOUT it repeats the previous one; in PARKED it is RELEASED. A waiting change of the stand limits comes
into force in the first cycle whose reference is RELEASED, and no other cycle's deadline moves the limits in force or the mark; that it
does so at the deadline is the model's choice (log 52). -/
def Obligations.PositioningRun : Prop :=
  (∀ (s : State) (k : Nat) (x : StandSched), s.tb.deadlineDone = false → 1 ≤ k → k ≤ 7 → k ≤ s.force.n → k ≤ s.conf.n →
    k ≤ s.lowN → s.track.bars = [] → (s.stand k).ctx.state = .positioning → (s.stand k).sc.state = .positioning →
    (s.stand k).ctx.target = some x → s.targetSched k = some x → (s.stand k).ctx.zero = (s.stand k).gcu.zero →
    (s.stand k).sc.sMin ≤ (s.stand k).sc.sMax →
    ∃ t, exec .sampleDeadline s = .next t
      ∧ (let st := s.stand k
        let lo := st.sc.sMin
        let hi := st.sc.sMax
        let goal := max lo (min hi (st.gcu.zero + x.sBase))
        let slew := st.gcu.live.rollSlew.getD x.rollSlew
        let gap := (t.stand k).chans.gap
        let counts : Prop := (t.stand k).sc.gapRef = some goal ∧ gap.status ≠ .lost
          ∧ |gap.value - goal| ≤ (s.force.stands.get k).tolerance
        (∀ g, st.ctx.start = some g → lo ≤ g → g ≤ hi → (t.stand k).sc.gapRef = some g)
          ∧ (∀ p, st.ctx.start = none → st.sc.prevGap = some p → 0 ≤ slew → lo ≤ p → p ≤ hi →
            (t.stand k).sc.gapRef = some (max (p - slew) (min (p + slew) goal)))
          ∧ ((t.stand k).sc.state ≠ .tripped →
            (¬counts → (t.stand k).sc.state = .positioning ∧ (t.stand k).sc.posRun = 0)
            ∧ (counts → st.sc.posRun < 7 →
              (t.stand k).sc.state = .positioning ∧ (t.stand k).sc.posRun = st.sc.posRun + 1)
            ∧ (counts → st.sc.posRun = 7 → (t.stand k).sc.state = .ready ∧ (t.stand k).sc.posRun = 8))))
    ∧ ∀ (s : State) (k : Nat), s.tb.deadlineDone = false → 1 ≤ k → k ≤ 7 → k ≤ s.force.n →
      ∃ t, exec .sampleDeadline s = .next t
        ∧ (let st := s.stand k
          let lo := st.sc.sMin
          let hi := st.sc.sMax
          let c := s.conf.stands.get k
          let u := (t.stand k).sc
          (∀ x p, st.ctx.state = .ready → st.ctx.target = some x → st.ctx.start = none → st.sc.prevGap = some p → lo ≤ p → p ≤ hi →
            let slew := st.gcu.live.rollSlew.getD x.rollSlew
            0 ≤ slew → u.gapRef = some (max (p - slew) (min (p + slew) (max lo (min hi (st.ctx.zero + x.sBase))))))
          ∧ (st.ctx.state = .tailout → st.sc.prevGap = none → u.gapRef = none)
          ∧ (∀ p, st.ctx.state = .tailout → st.sc.prevGap = some p → lo ≤ p → p ≤ hi → u.gapRef = some p)
          ∧ (st.ctx.state = .parked → u.gapRef = none)
          ∧ (u.gapRef = none → st.sc.limWait = true → u.sMin = c.sMin ∧ u.sMax = c.sMax ∧ u.limWait = false)
          ∧ (u.gapRef ≠ none ∨ st.sc.limWait = false → u.sMin = lo ∧ u.sMax = hi ∧ u.limWait = st.sc.limWait))

/-- In THREADING, with no trip of the stand in the cycle and no load-off of it waiting to be judged: an unmasked cycle whose
raw error is 0, or of the sign opposite to the first sign, ends threading in ROLLING, with STAND STATE THREAD DONE; so does the cycle
at the thread limit, with STAND STATE THREAD TIMEOUT and a THREAD TIMEOUT report of the stand, the bar served and the raw error;
otherwise the stand stays in THREADING, and the first unmasked error sets the first sign. -/
def Obligations.ThreadingExit : Prop :=
  ∀ (s : State) (k : Nat) (x : StandSched), s.tb.deadlineDone = false → 1 ≤ k → k ≤ 7 → k ≤ s.force.n → k ≤ s.conf.n →
    k ≤ s.lowN → (s.stand k).ctx.state = .threading → (s.stand k).sc.state = .threading → (s.stand k).ctx.sched = some x →
    ∃ t e, exec .sampleDeadline s = .next t ∧ (t.stand k).gcu.q.eRaw = some e
      ∧ (let r := (s.stand k).sc
        let unmasked : Prop := r.nMask < (r.threadCount : Int)
        let ends : Prop := unmasked ∧ (e = 0 ∨ (r.firstSign = .positive ∧ e < 0) ∨ (r.firstSign = .negative ∧ 0 < e))
        (t.stand k).sc.state ≠ .tripped → (∀ h ∈ t.track.held, ¬(h.stand = k ∧ h.on = false)) →
          (ends ∨ r.threadLimit ≤ (r.threadCount : Int) → (t.stand k).sc.state = .rolling
            ∧ (t.stand k).sc.firstSign = .nothing)
          ∧ (ends → t.sent s.tb.cycle .standState [(k : Int), 4, 5, 6, natField r.served])
          ∧ (¬ends → r.threadLimit ≤ (r.threadCount : Int) →
            t.sent s.tb.cycle .standState [(k : Int), 4, 5, 7, natField r.served]
              ∧ t.sent s.tb.cycle .threadTimeout [(k : Int), natField r.served, e])
          ∧ (¬ends → (r.threadCount : Int) < r.threadLimit → (t.stand k).sc.state = .threading
            ∧ (¬unmasked → (t.stand k).sc.firstSign = r.firstSign)
            ∧ (unmasked → r.firstSign = .nothing →
              (t.stand k).sc.firstSign = if e < 0 then .negative else .positive)))

/-- The speed references of the cycle. In THREADING and ROLLING the local ratio is C·1,000,000/h_ref, the trim is the sum of
the carried ratios within ±T_limit, the demand is V_sched·(1,000,000 + trim)/1,000,000, and the reference is the demand
within one speed slew of the previous one and within 0 to 25,000. POSITIONING and READY take the first speed reference and then
slew toward the target's speed. TAILOUT and HOLD repeat the previous reference, OPEN lowers
it by the speed ramp and not below 0, and PARKED, CALIBRATING and RELEASE release it. The trim marks tell on which side the sum
lay beyond T_limit, and the speed marks that the slew or the range held the reference. The trim sum of a stand adds the ratio of
every stand downstream of it that is in the cascade on the same bar and is SUCCESSIVE, or SINGLE and the next one; that of
stand N is 0. That a stand parked and armed in one cycle slews on from its driven previous reference is the model's choice
(log 38). -/
def Obligations.DeadlineSpeed : Prop :=
  (∀ (s : State) (k : Nat), s.tb.deadlineDone = false → 1 ≤ k → k ≤ 7 → k ≤ s.force.n →
    ∃ t, exec .sampleDeadline s = .next t
      ∧ (let c := (s.stand k).ctx
        let f := s.force.stands.get k
        let prev := (s.stand k).scu.prevSpeed
        let u := (t.stand k).scu
        u.prevSpeed = prev
          ∧ (c.state = .parked ∨ c.state = .calibrating → u.speedRef = none)
          ∧ (c.state = .tailout → u.speedRef = prev ∧ u.trim = none ∧ u.demand = none ∧ u.ratio = none ∧ u.slewLimited = false)
          ∧ (c.state = .tripped → c.action = .hold → u.speedRef = prev)
          ∧ (c.state = .tripped → c.action = .opening → u.speedRef = prev.map (fun p => max 0 (p - f.speedRamp)))
          ∧ (c.state = .tripped → c.action = .release → u.speedRef = none)
          ∧ (c.state = .tripped → u.mode = none ∧ u.ratio = none ∧ u.trim = none ∧ u.demand = none)
          ∧ (∀ v, c.state = .positioning ∨ c.state = .ready → prev = none → c.startSpeed = some v → 0 ≤ v → v ≤ 25000 →
            u.speedRef = some v)
          ∧ (∀ x p, c.state = .positioning ∨ c.state = .ready → c.target = some x → prev = some p → 0 ≤ f.speedSlew →
            u.speedRef = some (max (p - f.speedSlew) (min (p + f.speedSlew) x.vSched))
              ∧ (u.slewLimited = true ↔ p + f.speedSlew < x.vSched ∨ x.vSched < p - f.speedSlew))
          ∧ ∀ x, c.state = .threading ∨ c.state = .rolling → c.sched = some x →
            let trim := max (-f.tLimit) (min f.tLimit (t.trimSum k))
            let demand := Int.tdiv (x.vSched * (1000000 + trim)) 1000000
            u.mode = some x.mode ∧ u.trim = some trim ∧ u.demand = some demand
              ∧ u.ratio = (t.stand k).gcu.q.c.map (fun v => Int.tdiv (v * 1000000) x.hRef)
              ∧ (u.trimHigh = true ↔ f.tLimit < t.trimSum k) ∧ (u.trimLow = true ↔ t.trimSum k < -f.tLimit)
              ∧ ∀ p, prev = some p → 0 ≤ f.speedSlew →
                let near := max (p - f.speedSlew) (min (p + f.speedSlew) demand)
                u.speedRef = some (max 0 (min 25000 near))
                  ∧ (u.slewLimited = true ↔ p + f.speedSlew < demand ∨ demand < p - f.speedSlew)
                  ∧ (u.rangeLimited = true ↔ near < 0 ∨ 25000 < near)))
    ∧ ∀ (s : State) (j : Nat), 1 ≤ j → j ≤ 7 → s.force.n ≤ 7 →
      let mine := (s.stand j).ctx
      let share (k : Nat) : Int :=
        let other := (s.stand k).ctx
        if (other.state = .threading ∨ other.state = .rolling) ∧ other.served ≠ none ∧ other.served = mine.served then
          match other.sched, (s.stand k).gcu.q.c with
          | some x, some c =>
            if x.mode = .successive ∨ (x.mode = .single ∧ k = j + 1) then Int.tdiv (c * 1000000) x.hRef else 0
          | _, _ => 0
        else 0
      s.trimSum j = ∑ k ∈ Finset.Icc (j + 1) s.force.n, share k

/-- Zero calibration at the deadline, with no trip of the stand in the cycle. In the first cycle the reference is the start gap, and the
kiss test is made on it. In CLOSING the reference falls by the close rate to S_min at most; a force at the kiss force makes HOLDING with
that reference as the kiss reference, S_min without a kiss makes OPENING with NO KISS. In HOLDING the reference is the kiss reference; a
force outside 9/10 to 12/10 of the kiss force makes OPENING with UNSTEADY; one inside is summed with the gap, and the 64th forms the
averages and the candidate, with ZERO RANGE outside −5,000 to 10,000, and makes OPENING. A LOST gap or force channel in CLOSING or
HOLDING makes OPENING with MEASUREMENT LOST. In OPENING the reference rises by the escape slew to the start gap, and there the stand is
parked, a result OK makes the candidate its zero, and STAND STATE and CAL DONE are sent. That the first cycle has no slew also where the
stand was parked in the cycle of ZERO CAL is the model's choice (log 38), and so is how CAL DONE codes a result and a prior result (log
12). -/
def Obligations.CalibrationCycle : Prop :=
  ∀ (s : State) (k : Nat), s.tb.deadlineDone = false → 1 ≤ k → k ≤ 7 → k ≤ s.force.n → k ≤ s.conf.n → k ≤ s.lowN →
    (s.stand k).ctx.state = .calibrating → (s.stand k).sc.state = .calibrating →
    (s.stand k).cal.phase = (s.stand k).ctx.phase →
    ∃ t, exec .sampleDeadline s = .next t
      ∧ (let st := s.stand k
        let u := t.stand k
        let c := st.cal
        let force := u.chans.force.value
        let lost : Prop := u.chans.gap.status = .lost ∨ u.chans.force.status = .lost
        (∀ g, st.ctx.start = some g → st.sc.sMin ≤ g → g ≤ st.sc.sMax → u.sc.gapRef = some g
          ∧ (u.sc.state ≠ .tripped → ¬lost → c.phase = .closing →
            (c.kissForce ≤ force → u.cal = { c with phase := .holding, kissRef := some g })
            ∧ (force < c.kissForce → g = st.sc.sMin → u.cal = { c with phase := .opening, result := .noKiss })
            ∧ (force < c.kissForce → g ≠ st.sc.sMin → u.cal = c)))
        ∧ (u.sc.state ≠ .tripped → lost → c.phase = .closing ∨ c.phase = .holding →
          u.cal = { c with phase := .opening, result := .measurementLost })
        ∧ ∀ p, st.ctx.start = none → st.sc.prevGap = some p → st.sc.sMin ≤ p → p ≤ st.sc.sMax →
          u.sc.state ≠ .tripped → ¬lost →
          (c.phase = .closing → 0 ≤ c.closeRate →
            u.sc.gapRef = some (max st.sc.sMin (p - c.closeRate))
            ∧ (c.kissForce ≤ force → u.cal = { c with phase := .holding, kissRef := u.sc.gapRef })
            ∧ (force < c.kissForce → p - c.closeRate ≤ st.sc.sMin →
              u.cal = { c with phase := .opening, result := .noKiss })
            ∧ (force < c.kissForce → st.sc.sMin < p - c.closeRate → u.cal = c))
          ∧ (∀ r, c.phase = .holding → c.kissRef = some r → st.sc.sMin ≤ r → r ≤ st.sc.sMax →
            u.sc.gapRef = some r
            ∧ (force < Int.tdiv (c.kissForce * 9) 10 ∨ Int.tdiv (c.kissForce * 12) 10 < force →
              u.cal = { c with phase := .opening, result := .unsteady })
            ∧ (Int.tdiv (c.kissForce * 9) 10 ≤ force → force ≤ Int.tdiv (c.kissForce * 12) 10 → c.holdCount < 63 →
              u.cal = { c with
                holdCount := c.holdCount + 1, sumS := c.sumS + u.chans.gap.value, sumF := c.sumF + force })
            ∧ (Int.tdiv (c.kissForce * 9) 10 ≤ force → force ≤ Int.tdiv (c.kissForce * 12) 10 → c.holdCount = 63 →
              let sums := (c.sumS + u.chans.gap.value, c.sumF + force)
              let sAvg := Int.tdiv sums.1 64
              let fAvg := Int.tdiv sums.2 64
              let cand := sAvg + stretch (curveOf st.gcu.curve) fAvg
              u.cal = { c with
                phase := .opening, holdCount := 64, sumS := sums.1, sumF := sums.2, sAvg := some sAvg, fAvg := some fAvg
                candidate := some cand, result := if -5000 ≤ cand ∧ cand ≤ 10000 then c.result else .zeroRange }))
          ∧ (c.phase = .opening → 0 ≤ (s.force.stands.get k).escapeSlew → c.startGap ≤ st.sc.sMax → p ≤ c.startGap →
            u.sc.gapRef = some (min c.startGap (p + (s.force.stands.get k).escapeSlew))
            ∧ (p + (s.force.stands.get k).escapeSlew < c.startGap → u.sc.state = .calibrating ∧ u.cal = c)
            ∧ (c.startGap ≤ p + (s.force.stands.get k).escapeSlew →
              u.sc.state = .parked ∧ u.cal = { c with phase := .nothing }
              ∧ t.sent s.tb.cycle .standState [(k : Int), 1, 0, 13, natField st.sc.served]
              ∧ t.sent s.tb.cycle .calDone
                [(k : Int), c.result.code, optField (c.prior.map CalResult.code), c.oldZero, optField c.candidate,
                  optField c.sAvg, optField c.fAvg, optField c.kissRef, s.tb.cycle.toInt]
              ∧ (c.result = .ok → ∀ z, c.candidate = some z → u.gcu.zero = z ∧ u.gcu.zeroKnown = true)
              ∧ (c.result ≠ .ok → u.gcu.zero = st.gcu.zero ∧ u.gcu.zeroKnown = st.gcu.zeroKnown))))

/-! ### The tracker -/

/-- The update is made after the deadline, in its stages: advance, crossing, gauge passing, release and births; then the heads
missed, the TAILOUT end tests and the sources. In the advance every segment moves by its zone's speed with the forward slip over
the actual cycle length, but the head of a bar whose head was missed, and none comes to lie ahead of the segment before it in
the same zone. In the crossing every segment but a HEAD that has reached its zone's end, and whose bar's head has reached the
stand there, moves into the next zone with an estimate record, not ahead of the segment before it. Segments at the release point
leave the queue. So for a lone BODY or TAIL: it advances, crosses, or is released, a TAIL with its bar. That an update before
the deadline and a second one change nothing is the model's choice (log 4), and so is the order of what follows the five stages:
heads missed, end tests, sources (log 8). That the TAIL of a bar without a head crosses so also past an older bar's segments that wait in
its zone is the model's choice too (log 45). -/
def Obligations.TrackerAdvance : Prop :=
  ∀ s : State,
    (s.tb.deadlineDone = false ∨ s.tb.updateDone = true → exec .trackerUpdate s = .next s)
    ∧ (s.tb.deadlineDone = true → s.tb.updateDone = false →
      let moved := s.advance.crossing.passAll s.track.segs
      let born := State.bodyBirths 257 moved.release.1
      let u := ({ born with tb := { born.tb with updateDone := true } } : State).declareMissed
      exec .trackerUpdate s = .next (u.1.endTests.applyEvents (moved.release.2 ++ u.2)))
    ∧ (let run (x : Seg) : Int :=
        let slip := ((s.barSched x.bar x.zone).map StandSched.slip).getD 0
        let speed := Int.tdiv ((s.stand x.zone).chans.speed.value * (1000000 + slip)) 1000000
        if x.kind = .head ∧ (s.track.bar? x.bar).any (fun b => b.missed.isSome) = true then x.dist
        else x.dist + Int.tdiv (speed * s.tb.lastLen) 1000
      let u := s.advance
      u = { s with track := { s.track with segs := u.track.segs } } ∧ u.track.segs.length = s.track.segs.length
      ∧ (∀ x, s.track.segs[0]? = some x → u.track.segs[0]? = some { x with dist := run x })
      ∧ ∀ (i : Nat) x p, s.track.segs[i + 1]? = some x → u.track.segs[i]? = some p →
        u.track.segs[i + 1]? = some { x with dist := if p.zone = x.zone then min p.dist (run x) else run x })
    ∧ (let enters (x : Seg) : Prop := x.kind ≠ .head ∧ x.zone < s.force.n ∧ s.force.zones.get x.zone * 1000 ≤ x.dist
        ∧ ∃ b, s.track.bar? x.bar = some b ∧ x.zone + 1 ≤ b.furthest
      let next (x : Seg) : Seg := { x with
        zone := x.zone + 1, dist := x.dist - s.force.zones.get x.zone * 1000
        ests := x.ests ++ [{
          stand := x.zone + 1, thickness := (s.stand (x.zone + 1)).gcu.q.hEst
          hRef := ((s.barSched x.bar (x.zone + 1)).map StandSched.hRef).getD 0
          startup := decide ((s.stand (x.zone + 1)).ctx.state = .threading) }] }
      let u : State := s.crossing
      u = { s with track := { s.track with segs := u.track.segs } } ∧ u.track.segs.length = s.track.segs.length
      ∧ (∀ (i : Nat) x, s.track.segs[i]? = some x → ¬enters x → u.track.segs[i]? = some x)
      ∧ (∀ x, s.track.segs[0]? = some x → enters x → u.track.segs[0]? = some (next x))
      ∧ ∀ (i : Nat) x p, s.track.segs[i + 1]? = some x → enters x → u.track.segs[i]? = some p →
        u.track.segs[i + 1]? = some { next x with
          dist := if p.zone = x.zone + 1 then min p.dist (next x).dist else (next x).dist })
    ∧ (∀ x ∈ s.release.1.track.segs, x ∈ s.track.segs ∧ ¬(x.zone = s.force.n ∧ s.force.release * 1000 ≤ x.dist))
    ∧ (∀ x ∈ s.track.segs, x.kind = .tail → x.zone = s.force.n → s.force.release * 1000 ≤ x.dist →
      (∀ b ∈ s.release.1.track.bars, b.id ≠ x.bar) ∧ ((∃ b ∈ s.track.bars, b.id = x.bar) →
        ∀ y ∈ s.release.1.track.segs, y.bar ≠ x.bar))
    ∧ (s.tb.deadlineDone = true → s.tb.updateDone = false →
      ∃ t, exec .trackerUpdate s = .next t ∧ t.pending = s.pending ∧ t.conf = s.conf ∧ t.force = s.force
        ∧ t.tb = { s.tb with updateDone := true, endTests := t.tb.endTests }
        ∧ t.estops = s.estops ∧ t.gauges = s.gauges ∧ t.store.cells = s.store.cells ∧ t.fresh = s.fresh
        ∧ ∀ x, s.track.segs = [x] → x.kind ≠ .head → 1 ≤ x.zone → x.zone ≤ s.force.n → x.zone ≤ 6 ∨ x.zone = s.force.n →
          s.placedGauges = [] → (∀ b ∈ s.track.bars, b.tailBorn = true) →
          let slip := ((s.barSched x.bar x.zone).map StandSched.slip).getD 0
          let speed := Int.tdiv ((s.stand x.zone).chans.speed.value * (1000000 + slip)) 1000000
          let d := x.dist + Int.tdiv (speed * s.tb.lastLen) 1000
          let len := s.force.zones.get x.zone * 1000
          let release := s.force.release * 1000
          (x.zone < s.force.n → d < len → t.track.segs = [{ x with dist := d }] ∧ t.track.bars = s.track.bars)
          ∧ (x.zone = s.force.n → d < release → t.track.segs = [{ x with dist := d }] ∧ t.track.bars = s.track.bars)
          ∧ (x.zone < s.force.n → len ≤ d → (∃ b, s.track.bar? x.bar = some b ∧ x.zone + 1 ≤ b.furthest) →
            (x.zone + 1 = s.force.n → d - len < release) →
            t.track.segs = [{ x with
              zone := x.zone + 1, dist := d - len
              ests := x.ests ++ [{
                stand := x.zone + 1, thickness := (s.stand (x.zone + 1)).gcu.q.hEst
                hRef := ((s.barSched x.bar (x.zone + 1)).map StandSched.hRef).getD 0
                startup := decide ((s.stand (x.zone + 1)).ctx.state = .threading) }] }])
          ∧ (x.zone = s.force.n → release ≤ d → t.track.segs = []
            ∧ (x.kind = .tail → ∀ b ∈ t.track.bars, b.id ≠ x.bar)))

/-- A segment that a movement takes onto or over a placed gauge, and that has no reading of it yet, takes the gauge's value as
its reading, when the channel is not LOST and took its last sample at most 2^d cycles ago. A bound gauge of a stand that is in
ROLLING for the cycle then hands over the segment's recorded estimate, when it has one not marked as start-up: the offset moves
by (d − M)·Mg/256, truncated, within ±M_limit, with d the reading less the recorded estimate. With two segments passing, the
older one's update comes first. Otherwise nothing changes. -/
def Obligations.GaugePassing : Prop :=
  ∀ (s : State) (g : Nat), s.placedGauges = [g] →
    let f := s.force.gauges.get g
    let c := s.gauges.get g
    let k := f.zone.toNat
    let at_ := f.dist * 1000
    let usable : Prop := c.status ≠ .lost ∧ ∃ m, c.lastSample = some m ∧ (s.tb.cycle - m).toNat ≤ 2 ^ f.divider.toNat
    let reached (x : Seg) : Prop := k < x.zone ∨ (x.zone = k ∧ at_ ≤ x.dist)
    let over_ (old x : Seg) : Prop := ¬reached old ∧ reached x ∧ ∀ r ∈ x.reads, r.gauge ≠ g
    let read (x : Seg) : Seg := { x with reads := x.reads ++ [⟨g, c.value⟩] }
    let mg (x : Seg) : Int := (s.stand k).gcu.live.mg.getD (((s.barSched x.bar k).map StandSched.mg).getD 0)
    let lim := (s.force.stands.get k).mLimit
    let handed (x : Seg) (e : Estimate) (h : Int) : Prop :=
      f.bound ≠ 0 ∧ (s.stand k).ctx.state = .rolling ∧ x.ests.find? (fun e => decide (e.stand = k)) = some e
        ∧ e.startup = false ∧ e.thickness = some h
    let step_ (m : Int) (x : Seg) (h : Int) : Int := max (-lim) (min lim (m + Int.tdiv ((c.value - h - m) * mg x) 256))
    (∀ old x : Seg, s.track.segs = [x] → old.seq = x.seq →
      let t := s.passAll [old]
      (¬(usable ∧ over_ old x) → t = s)
      ∧ (usable → over_ old x → t.track = { s.track with segs := [read x] }
        ∧ (∀ e h, handed x e h → t.stands = s.stands.set k { s.stand k with
            gcu := { (s.stand k).gcu with monitor := step_ (s.stand k).gcu.monitor x h } })
        ∧ ((∀ e h, ¬handed x e h) → t.stands = s.stands)))
    ∧ ∀ (o1 o2 x1 x2 : Seg) (e1 e2 : Estimate) (h1 h2 : Int), 1 ≤ k → k ≤ 7 → s.track.segs = [x1, x2] → x1.seq ≠ x2.seq →
      o1.seq = x1.seq → o2.seq = x2.seq → usable → over_ o1 x1 → over_ o2 x2 → handed x1 e1 h1 → handed x2 e2 h2 →
      let t := s.passAll [o1, o2]
      t.track.segs = [read x1, read x2]
        ∧ (t.stand k).gcu.monitor = step_ (step_ (s.stand k).gcu.monitor x1 h1) x2 h2

/-- BODY births, heads missed and the TAILOUT end test. When the newest segment of the current bar lies one pitch or more into
zone 1, a BODY is born for every whole pitch, each one pitch behind the one before, with the next sequence numbers and an
estimate record of stand 1; with a full queue none is born, the bar is marked, its births are deferred and TRACK FULL is sent
once. Where births are deferred and the newest segment has left zone 1, a BODY is born at distance 0 once there is room; that the
model knows a deferral by a flag of the bar is its choice (log 22). A HEAD beyond its
window, with no load-on waiting at the stand there, is declared missed and presents its source. A stand in TAILOUT whose bar's
TAIL lies at or beyond the tail clearance in its zone, or in a later one, or whose bar has left the list, serves no bar any more,
its integrator is zeroed, and it goes to POSITIONING or, without a target, to PARKED. A TAIL at the release point takes its bar from the
list: a stand in THREADING or ROLLING that serves it serves none, goes to POSITIONING or, without a target, to PARKED, with STAND STATE
BAR RELEASED, and presents unexpected load when it is loaded; one in TAILOUT ends it as at its end test; a TRIPPED one serves none and
stays. That STAND STATE carries the bar served until then is the model's choice (log 12). -/
def Obligations.BirthsAndEnds : Prop :=
  (∀ (s : State) (b : Bar) (x : Seg) (pitch : Int), s.track.current = some b → s.track.newest b.id = some x →
    x.zone = 1 → (s.barCopy b.id).map Sched.pitch = some pitch → 0 < pitch → 0 ≤ x.dist → s.track.nextSeq ≤ 65535 →
    let n := (x.dist / (pitch * 1000)).toNat
    let t := State.bodyBirths 257 s
    (s.track.segs.length + n ≤ 256 →
      t.track.segs = s.track.segs ++ (List.range n).map (fun i =>
        { seq := (s.track.nextSeq + i) % 65536, bar := b.id, kind := .body, zone := 1
          dist := x.dist - ((i : Int) + 1) * (pitch * 1000), birth := s.tb.cycle
          ests := [{
            stand := 1, thickness := (s.stand 1).gcu.q.hEst, hRef := ((s.barSched b.id 1).map StandSched.hRef).getD 0
            startup := decide ((s.stand 1).ctx.state = .threading) }]
          reads := [] })
      ∧ t.track.nextSeq = (s.track.nextSeq + n) % 65536)
    ∧ (256 ≤ s.track.segs.length → 1 ≤ n → t.track.segs = s.track.segs ∧ t.track.nextSeq = s.track.nextSeq
      ∧ (∀ b' ∈ t.track.bars, b'.id = b.id → b'.deferred = true ∧ (b'.trackFull = true ∨ b.trackFull = true))
      ∧ (b.trackFull = false → t.sent s.tb.cycle .trackFull [(b.id : Int), (s.track.segs.length : Int)])
      ∧ (b.trackFull = true → t.link = s.link)))
    ∧ (∀ (s : State) (b : Bar) (x : Seg) (pitch : Int), s.track.current = some b → s.track.newest b.id = some x →
      x.zone ≠ 1 → (s.barCopy b.id).map Sched.pitch = some pitch → 0 < pitch → s.track.nextSeq ≤ 65535 →
      let t := State.bodyBirths 257 s
      (b.deferred = true → s.track.segs.length < 256 →
        t = { s with track := { s.track with
          segs := s.track.segs ++ [{
            seq := s.track.nextSeq, bar := b.id, kind := .body, zone := 1, dist := 0, birth := s.tb.cycle
            ests := [{
              stand := 1, thickness := (s.stand 1).gcu.q.hEst, hRef := ((s.barSched b.id 1).map StandSched.hRef).getD 0
              startup := decide ((s.stand 1).ctx.state = .threading) }]
            reads := [] }]
          bars := s.track.bars.map (fun y => if y.id = b.id then { y with deferred := false } else y)
          nextSeq := (s.track.nextSeq + 1) % 65536 } })
      ∧ (b.deferred = false ∨ 256 ≤ s.track.segs.length → t = s))
    ∧ (∀ s : State,
      let r := s.declareMissed
      let missed (x : Seg) : Prop := x ∈ s.track.segs ∧ x.kind = .head ∧ x.zone < s.force.n
        ∧ s.force.zones.get x.zone * 1000 + s.force.wHead * 1000 < x.dist
        ∧ (∃ b, s.track.bar? x.bar = some b ∧ b.missed = none) ∧ ⟨x.zone + 1, true⟩ ∉ s.track.held
      r.1 = { s with track := { s.track with bars := r.1.track.bars } }
      ∧ (∀ src : Source, src ∈ r.2 ↔ ∃ x, missed x ∧ src = ⟨.headMissed, some (x.zone + 1), some x.bar⟩)
      ∧ (∀ b, b ∈ s.track.bars → (∀ x, missed x → x.bar ≠ b.id) → b ∈ r.1.track.bars)
      ∧ ∀ b ∈ r.1.track.bars, (∃ x, missed x ∧ x.bar = b.id) → ∃ x, missed x ∧ x.bar = b.id ∧ b.missed = some (x.zone + 1))
    ∧ (∀ s : State, (s.tb.endTests = true ∨ s.track.held ≠ [] → s.endTests = s)
      ∧ (s.tb.endTests = false → s.track.held = [] → s.endTests.tb = { s.tb with endTests := true }))
    ∧ (∀ (s : State) (k : Nat), s.tb.endTests = false → s.track.held = [] → 1 ≤ k → k ≤ 7 → k ≤ s.force.n → k ≤ s.conf.n →
      k ≤ s.lowN →
      let st := s.stand k
      let clear : Prop := ∀ id, st.sc.served = some id → (∀ b ∈ s.track.bars, b.id ≠ id)
        ∨ ∃ x ∈ s.track.segs, x.bar = id ∧ x.kind = .tail ∧ (k < x.zone ∨ (x.zone = k ∧ s.force.clearance * 1000 ≤ x.dist))
      let t := s.endTests
      (¬(st.ctx.state = .tailout ∧ st.sc.state = .tailout ∧ clear) → t.stand k = st)
      ∧ (st.ctx.state = .tailout → st.sc.state = .tailout → clear → st.sc.target = .nothing →
        t.stand k = { st with
          sc := { st.sc with state := .parked, armGap := none, armSpeed := none, served := none }
          gcu := { st.gcu with iacc := 0 } }
        ∧ t.sent s.tb.cycle .standState [(k : Int), 6, 0, 4, natField st.sc.served])
      ∧ (st.ctx.state = .tailout → st.sc.state = .tailout → clear → st.sc.target ≠ .nothing →
        t.stand k = { st with
          sc := { st.sc with state := .positioning, posRun := 0, served := none }, gcu := { st.gcu with iacc := 0 } }
        ∧ t.sent s.tb.cycle .standState [(k : Int), 6, 2, 9, natField st.sc.served]))
    ∧ (∀ (s : State) (x : Seg) (b : Bar),
      let gone (y : Seg) : Bool := decide (y.zone = s.force.n ∧ s.force.release * 1000 ≤ y.dist)
      s.track.segs.filter gone = [x] → x.kind = .tail → s.track.bar? x.bar = some b →
      s.release = State.releaseBar { s with track := { s.track with segs := s.track.segs.filter (fun y => !gone y) } } b)
    ∧ ∀ (s : State) (b : Bar),
      let r := s.releaseBar b
      let target (k : Nat) : Target :=
        match s.track.bars.find? (fun y => decide (y.id ≠ b.id ∧ y.furthest < k)) with
        | some y => .bar y.id
        | none => if s.images.staged = none then .nothing else .staged
      let held (k : Nat) : Prop := 1 ≤ k ∧ k ≤ 7 ∧ k ≤ s.conf.n ∧ (s.stand k).sc.served = some b.id
        ∧ ((s.stand k).sc.state = .threading ∨ (s.stand k).sc.state = .rolling)
      (∀ y, y ∈ r.1.track.bars ↔ y ∈ s.track.bars ∧ y.id ≠ b.id)
      ∧ (∀ y, y ∈ r.1.track.segs ↔ y ∈ s.track.segs ∧ y.bar ≠ b.id)
      ∧ (∀ src : Source, src ∈ r.2 ↔ ∃ k, held k ∧ (s.stand k).sc.loaded = true
        ∧ src = ⟨.unexpectedLoad, some k, match target k with | .bar id => some id | _ => none⟩)
      ∧ ∀ k, 1 ≤ k → k ≤ 7 → k ≤ s.conf.n → (s.stand k).sc.served = some b.id →
        let old := (s.stand k).sc
        let new := (r.1.stand k).sc
        let sent (into reason : Int) : Prop :=
          r.1.sent s.tb.cycle .standState [(k : Int), old.state.code, into, reason, (b.id : Int)]
        (held k ∨ old.state = .tailout ∨ old.state = .tripped → (r.1.stand k).gcu.iacc = 0)
        ∧ (held k ∨ old.state = .tailout → target k ≠ .nothing →
          new = { old with state := .positioning, target := target k, served := none, posRun := 0 })
        ∧ (held k ∨ old.state = .tailout → target k = .nothing →
          new = { old with state := .parked, target := .nothing, served := none, armGap := none, armSpeed := none })
        ∧ (held k → (target k ≠ .nothing → sent 2 10) ∧ (target k = .nothing → sent 0 10))
        ∧ (old.state = .tailout → (target k ≠ .nothing → sent 2 9) ∧ (target k = .nothing → sent 0 4))
        ∧ (old.state = .tripped → new = { old with target := target k, served := none })

/-- A held load change is judged once the update has been made: its effect by the stand's state, then, after a load-off, the
THREADING exit test that waited for it, the heads missed, the end tests and the sources. At stand 1 in READY, with the staged schedule
and an empty train, a load-on creates a bar from the staged schedule, its HEAD at distance 0 of zone 1, and stand 1 threads
it. At a stand above 1 in READY a load-on with the targeted bar's head inside its window moves the head to the stand, which
threads the bar. A load-off of stand 1 in ROLLING gives its bar a TAIL at distance 0 of zone 1, and the stand goes to
TAILOUT. That a judgement of a stand with no held change, or before the update, changes nothing is the model's choice (log 4), and
so are the order of what follows the effect: exit test, heads missed, end tests, sources (log 8), and how in time and late are sent
(log 12). -/
def Obligations.LoadChangeJudged : Prop :=
  ∀ s : State,
    (∀ k, s.tb.updateDone = false ∨ (∀ h ∈ s.track.held, h.stand ≠ k) → exec (.loadChangeJudged k) s = .next s)
    ∧ (∀ k h, s.tb.updateDone = true → s.track.held.find? (fun h => decide (h.stand = k)) = some h →
      let u : State := { s with track := { s.track with held := s.track.held.erase h } }
      let state := (s.stand k).sc.state
      let busy : Prop := state = .positioning ∨ state = .threading ∨ state = .rolling ∨ state = .tailout
      let rolls : Prop := state = .threading ∨ state = .rolling
      ∃ e : State × List Source,
        (h.on = true → state = .ready → e = if k = 1 then u.headBirth else u.headArrives k)
        ∧ (h.on = true → busy → e = (u, [⟨.unreadyStand, some k, none⟩]))
        ∧ (h.on = true → state ≠ .ready → ¬busy → e = (u, []))
        ∧ (h.on = false → rolls → e = u.tailLeaves k)
        ∧ (h.on = false → ¬rolls → e = (u, []))
        ∧ (let v := if h.on then e.1 else State.testThreading k e.1
          exec (.loadChangeJudged k) s
            = .next (v.declareMissed.1.endTests.applyEvents (e.2 ++ v.declareMissed.2))))
    ∧ (∀ x, s.tb.updateDone = true → s.track.held = [⟨1, true⟩] → (s.stand 1).sc.state = .ready →
      s.images.staged = some x → s.images.copy0 = none → s.track.segs = [] → s.track.bars = [] →
      0 ≤ s.force.zones.z1 → 0 ≤ s.force.wHead →
      ∃ t, exec (.loadChangeJudged 1) s = .next t ∧ t.pending = s.pending ∧ t.conf = s.conf ∧ t.force = s.force
        ∧ t.track =
          { segs := [{
              seq := s.track.nextSeq, bar := s.track.nextBar, kind := .head, zone := 1, dist := 0, birth := s.tb.cycle
              ests := [{ stand := 1, thickness := (s.stand 1).gcu.q.hEst, hRef := x.sched.stands.s1.hRef, startup := true }]
              reads := [] }]
            bars := [{
              id := s.track.nextBar, copy := 0, slot := x.slot, furthest := 1, missed := none, tailBorn := false
              trackFull := false, deferred := false }]
            nextSeq := if s.track.nextSeq < 65535 then s.track.nextSeq + 1 else 0
            nextBar := if s.track.nextBar < 65535 then s.track.nextBar + 1 else 1
            held := [] }
        ∧ t.images = { staged := if x.rep then some x else none, copy0 := some ⟨x.sched, x.slot⟩, copy1 := s.images.copy1 }
        ∧ (t.stand 1).sc.state = .threading ∧ (t.stand 1).sc.served = some s.track.nextBar
        ∧ (t.stand 1).sc.threadCount = 0 ∧ (t.stand 1).sc.firstSign = .nothing ∧ (t.stand 1).sc.runawayRun = .zero
        ∧ (t.stand 1).sc.nMask = x.sched.stands.s1.nMask ∧ (t.stand 1).sc.threadLimit = x.sched.stands.s1.threadLimit
        ∧ (t.stand 1).gcu = { (s.stand 1).gcu with iacc := 0 })
    ∧ (∀ k x b, s.tb.updateDone = true → 2 ≤ k → k ≤ 7 → k ≤ s.force.n → s.track.held = [⟨k, true⟩] →
      (s.stand k).sc.state = .ready → (s.stand k).sc.target = .bar x.bar → s.track.bar? x.bar = some b →
      b.missed = none → s.track.segs = [x] → x.kind = .head → x.zone = k - 1 → s.placedGauges = [] →
      s.force.zones.get (k - 1) * 1000 - s.force.wEarly * 1000 ≤ x.dist →
      x.dist ≤ s.force.zones.get (k - 1) * 1000 + s.force.wHead * 1000 → 0 ≤ s.force.wHead →
      0 ≤ s.force.zones.get k →
      ∃ t, exec (.loadChangeJudged k) s = .next t ∧ t.track.held = []
        ∧ t.track.segs = [{ x with
            zone := k, dist := 0
            ests := x.ests ++ [{
              stand := k, thickness := (s.stand k).gcu.q.hEst
              hRef := ((s.barSched x.bar k).map StandSched.hRef).getD 0, startup := true }] }]
        ∧ (∀ b' ∈ t.track.bars, b'.id = x.bar → b'.furthest = k)
        ∧ (t.stand k).sc.state = .threading ∧ (t.stand k).sc.served = some x.bar ∧ (t.stand k).sc.threadCount = 0
        ∧ (t.stand k).gcu.iacc = 0)
    ∧ ∀ id b, s.tb.updateDone = true → s.track.held = [⟨1, false⟩] → (s.stand 1).sc.state = .rolling →
      (s.stand 1).ctx.state = .rolling → (s.stand 1).sc.served = some id → s.track.bar? id = some b →
      s.track.segs.length < 256 → s.declareMissed.2 = [] →
      ∃ t, exec (.loadChangeJudged 1) s = .next t ∧ t.track.held = []
        ∧ t.track.segs = s.track.segs ++ [{
            seq := s.track.nextSeq, bar := b.id, kind := .tail, zone := 1, dist := 0, birth := s.tb.cycle
            ests := [{
              stand := 1, thickness := (s.stand 1).gcu.q.hEst
              hRef := ((s.barSched b.id 1).map StandSched.hRef).getD 0, startup := false }]
            reads := [] }]
        ∧ (∀ b' ∈ t.track.bars, b'.id = id → b'.tailBorn = true)
        ∧ (t.stand 1).sc.state = .tailout ∧ (t.stand 1).sc.served = some id

/-- What a judged load change does beyond the plain cases. A load-on at a stand above 1 whose targeted head is not in its window presents
unexpected load and changes nothing; an accepted one moves the head to the stand, and the rest of its bar in the zone by the same
correction, none back beyond 0, while other bars' segments stay, also where those then lie behind them (the model's choice, log 45), and
what a snap moves passes the gauges it is moved across. At stand 1 a load-on gives the bar whose tail is not born a TAIL first, with
TAIL MISMATCH, and presents bar overflow with two bars in the list or a full queue. With a full queue the newest segment of the bar
becomes its TAIL, there and at a load-off of stand 1; where that segment was the HEAD, the bar has none any more: its furthest stand is
N, and it is no stand's target. A load-off at a stand above 1 is judged by where the TAIL lies: from W_tail before the stand to W_tail
after it the TAIL moves to the stand, alone, also where the TAIL of a younger bar lies in that zone (the model's choice, log 45), the bar's
other segments before it are dropped and the stand goes to TAILOUT; farther on the TAIL
stays and TAIL MISMATCH is sent as well; before the window, or with no TAIL, load lost is presented and nothing changes. That in time is sent
as 0 and late as 1, and that TAIL AT STAND of a tail birth sends the place of the tail as born, 0 segments dropped and in time, are the
model's choices (log 12). -/
def Obligations.LoadChangeOutcomes : Prop :=
  let headless (s u : State) (b : Bar) (x : Seg) : Prop :=
    (x.kind = .head → (∀ b' ∈ u.track.bars, b'.id = b.id → b'.furthest = s.force.n)
      ∧ (s.conf.n ≤ s.force.n → ∀ k, 1 ≤ k → k ≤ 7 → k ≤ s.conf.n → (u.stand k).sc.target ≠ .bar b.id))
    ∧ (x.kind ≠ .head → u.track.bars.map Bar.furthest = s.track.bars.map Bar.furthest)
  (∀ (s : State) (k : Nat),
      let head (b : Bar) (x : Seg) : Prop := (s.stand k).sc.target = .bar x.bar ∧ s.track.bar? x.bar = some b
        ∧ b.missed = none ∧ s.track.segs.find? (fun y => decide (y.bar = x.bar ∧ y.kind = .head ∧ y.zone = k - 1)) = some x
        ∧ s.force.zones.get (k - 1) * 1000 - s.force.wEarly * 1000 ≤ x.dist
        ∧ x.dist ≤ s.force.zones.get (k - 1) * 1000 + s.force.wHead * 1000
        ∧ ∀ y ∈ s.track.segs.takeWhile (fun y => decide (y.seq ≠ x.seq)), y.zone ≠ k - 1
      ((∀ b x, ¬head b x) → s.headArrives k = (s, [⟨.unexpectedLoad, some k, (s.stand k).sc.target.barId⟩]))
      ∧ ∀ b x, 1 ≤ k → k ≤ 7 → head b x →
        let t := (s.headArrives k).1
        let c := s.force.zones.get (k - 1) * 1000 - x.dist
        let snapped := s.track.segs.map (fun y =>
            if y.seq = x.seq then { y with
              zone := k, dist := 0
              ests := y.ests ++ [{
                stand := k, thickness := (s.stand k).gcu.q.hEst
                hRef := ((s.barSched y.bar k).map StandSched.hRef).getD 0
                startup := decide (y.kind = .head) || decide ((s.stand k).ctx.state = .threading) }] }
            else if y.bar = x.bar ∧ y.zone = k - 1 then { y with dist := max 0 (y.dist + c) }
            else y)
        let passed := State.passAll { s with track := { s.track with segs := snapped } } s.track.segs
        (s.headArrives k).2 = []
        ∧ t.track.segs = passed.track.segs ∧ (s.placedGauges = [] → t.track.segs = snapped)
        ∧ (∀ j, 1 ≤ j → j ≤ 7 → (t.stand j).gcu.monitor = (passed.stand j).gcu.monitor)
        ∧ t.track.bars = s.track.bars.map (fun y => if y.id = b.id then { y with furthest := k } else y)
        ∧ (t.stand k).sc.served = some x.bar ∧ (t.stand k).gcu.iacc = 0
        ∧ t.sent s.tb.cycle .headAtStand [(k : Int), (x.bar : Int), (x.seq : Int), c]
        ∧ (⟨.headAt k, none, s.tb.cycle⟩ : Labelled) ∈ t.trace.triggers)
    ∧ (∀ s : State,
      let u := s.oldTail
      (s.track.current = none → u = s)
      ∧ (∀ b, s.track.current = some b → s.track.segs.length < 256 →
        u.track.segs = s.track.segs ++ [{
          seq := s.track.nextSeq, bar := b.id, kind := .tail, zone := 1, dist := 0, birth := s.tb.cycle
          ests := [{
            stand := 1, thickness := (s.stand 1).gcu.q.hEst, hRef := ((s.barSched b.id 1).map StandSched.hRef).getD 0
            startup := decide ((s.stand 1).ctx.state = .threading) }]
          reads := [] }]
        ∧ (∀ b' ∈ u.track.bars, b'.id = b.id → b'.tailBorn = true)
        ∧ u.sent s.tb.cycle .tailAtStand [1, (b.id : Int), (s.track.nextSeq : Int), 1, 0, 0, 0]
        ∧ u.sent s.tb.cycle .tailMismatch [1, (b.id : Int), 1, 0])
      ∧ (∀ b x, s.track.current = some b → 256 ≤ s.track.segs.length → s.track.newest b.id = some x →
        u.track.segs = s.track.segs.map (fun y => if y.seq = x.seq then { y with kind := .tail } else y)
        ∧ (∀ b' ∈ u.track.bars, b'.id = b.id → b'.tailBorn = true) ∧ headless s u b x
        ∧ (b.trackFull = false → u.sent s.tb.cycle .trackFull [(b.id : Int), (s.track.segs.length : Int)])
        ∧ u.sent s.tb.cycle .tailAtStand [1, (b.id : Int), (x.seq : Int), (x.zone : Int), x.dist, 0, 0])
      ∧ (2 ≤ s.track.bars.length ∨ 256 ≤ u.track.segs.length → s.headBirth = (u, [⟨.barOverflow, some 1, none⟩])))
    ∧ (∀ (s : State) (id : Nat) (b : Bar) (x : Seg), (s.stand 1).sc.served = some id → s.track.bar? id = some b →
      256 ≤ s.track.segs.length → s.track.newest id = some x →
      let t := (s.tailLeaves 1).1
      (s.tailLeaves 1).2 = []
      ∧ t.track.segs = s.track.segs.map (fun y => if y.seq = x.seq then { y with kind := .tail } else y)
      ∧ (∀ b' ∈ t.track.bars, b'.id = id → b'.tailBorn = true) ∧ headless s t b x
      ∧ (b.trackFull = false → t.sent s.tb.cycle .trackFull [(id : Int), (s.track.segs.length : Int)])
      ∧ t.sent s.tb.cycle .tailAtStand [1, (id : Int), (x.seq : Int), (x.zone : Int), x.dist, 0, 0]
      ∧ (t.stand 1).sc.state = .tailout ∧ (t.stand 1).sc.served = some id)
    ∧ ∀ (s : State) (k id : Nat), 2 ≤ k → k ≤ 7 → (s.stand k).sc.served = some id →
      let tail : Option Seg := s.track.segs.find? (fun y => decide (y.bar = id ∧ y.kind = .tail))
      let len := s.force.zones.get (k - 1) * 1000
      let w := s.force.wTail * 1000
      let before (x : Seg) : Prop := x.zone = k - 1 ∧ len - w ≤ x.dist
      let behind (x : Seg) : Prop := x.zone = k ∧ x.dist ≤ w
      let late (x : Seg) : Prop := ¬behind x ∧ k ≤ x.zone
      let t := (s.tailLeaves k).1
      let out (from_ : State) : Prop := (t.stand k).sc = { (from_.stand k).sc with state := .tailout }
        ∧ t.sent s.tb.cycle .standState [(k : Int), (s.stand k).sc.state.code, 6, 8, (id : Int)]
        ∧ (s.tailLeaves k).2 = [] ∧ (⟨.tailAt k, none, s.tb.cycle⟩ : Labelled) ∈ t.trace.triggers
      (tail = none ∨ (∃ x, tail = some x ∧ ¬before x ∧ ¬behind x ∧ ¬late x) →
        s.tailLeaves k = (s, [⟨.loadLost, some k, some id⟩]))
      ∧ (∀ x, tail = some x → before x ∨ behind x →
        let gone (y : Seg) : Bool := decide (y.bar = id ∧ y.zone = k - 1 ∧ y.seq ≠ x.seq)
        let snapped := (s.track.segs.filter (fun y => !gone y)).map (fun y =>
          if y.seq = x.seq then { y with
            zone := k, dist := 0
            ests := if x.zone = k - 1 then y.ests ++ [{
              stand := k, thickness := (s.stand k).gcu.q.hEst, hRef := ((s.barSched y.bar k).map StandSched.hRef).getD 0
              startup := decide (y.kind = .head) || decide ((s.stand k).ctx.state = .threading) }] else y.ests }
          else y)
        let passed := State.passAll { s with track := { s.track with segs := snapped } } [x]
        out s
        ∧ t.track.segs = passed.track.segs ∧ (s.placedGauges = [] → t.track.segs = snapped)
        ∧ (∀ j, 1 ≤ j → j ≤ 7 → (t.stand j).gcu = (passed.stand j).gcu)
        ∧ ∃ n : Nat, t.sent s.tb.cycle .tailAtStand [(k : Int), (id : Int), (x.seq : Int), (x.zone : Int), x.dist, (n : Int), 0]
          ∧ t.track.segs.length + n = s.track.segs.length)
      ∧ ∀ x, tail = some x → late x → out s ∧ t.track = s.track
        ∧ t.sent s.tb.cycle .tailAtStand [(k : Int), (id : Int), (x.seq : Int), (x.zone : Int), x.dist, 0, 1]
        ∧ t.sent s.tb.cycle .tailMismatch [(k : Int), (id : Int), (x.zone : Int), x.dist]

/-! ### The table store -/

/-- STORE ERASE: a slot outside 0 to 39 gives BAD_INDEX, a busy store BUSY, a slot in use IN_USE, in that order; else, in every slot state,
the erase starts with the reply OK. At its completion every entry is erased, the map, cursor and pending damage are clear; the slot is
BLANK and the result OK when every entry reads 65,535, else it is DAMAGED with ERASE FAULT. That the completion does nothing with no
erase in flight, that it carries what read back, and the layout and codes of STORE DONE are the model's choices (logs 4, 15 and 12). -/
def Obligations.StoreErase : Prop :=
  (∀ (tag slot : Byte) (s : State), s.ready →
    let n := slot.toNat
    let inUse : Prop :=
      (n < 32 ∧ ((∃ x, s.images.staged = some x ∧ x.slot = n) ∨ (∃ x, s.images.copy0 = some x ∧ x.slot = n)
        ∨ ∃ x, s.images.copy1 = some x ∧ x.slot = n))
      ∨ (32 ≤ n ∧ ∃ k, 1 ≤ k ∧ k ≤ 7 ∧ k ≤ s.conf.n ∧ (s.conf.stands.get k).curveSlot + 32 = (n : Int)
        ∧ (s.stand k).sc.state ≠ .parked ∧ (s.stand k).sc.state ≠ .tripped)
    (39 < n → exec (.storeErase tag slot) s = .next (s.replied 0x15 tag .badIndex []))
    ∧ (n ≤ 39 → s.store.op ≠ none → exec (.storeErase tag slot) s = .next (s.replied 0x15 tag .busy []))
    ∧ (n ≤ 39 → s.store.op = none → inUse → exec (.storeErase tag slot) s = .next (s.replied 0x15 tag .inUse []))
    ∧ (n ≤ 39 → s.store.op = none → ¬inUse →
      let t : State := { s with store := { s.store with op := some ⟨.erase, n, .erase, []⟩, mark := some n } }
      exec (.storeErase tag slot) s = .next (t.replied 0x15 tag .ok [])))
    ∧ ∀ (read : List (Nat × Entry)) (s : State),
      ((∀ op, s.store.op = some op → op.kind ≠ .erase) → exec (.storeEraseDone read) s = .next s)
      ∧ ∀ n, s.store.op = some ⟨.erase, n, .erase, []⟩ → s.memoriesCanonical →
        (Instr.storeEraseDone read).wellFormed = true →
        ∃ t : State, exec (.storeEraseDone read) s = .next t
          ∧ (let ok : Prop := ∀ p ∈ read, p.2 = 65535#16
            (∃ code : Int, (ok → code = 0) ∧ (¬ok → code = 1)
              ∧ t = { s with
                  store := t.store
                  link := s.link.queueEvent s.tb.cycle .storeDone [0, n, -2147483648, code, -2147483648] })
            ∧ t.store.op = none ∧ t.store.mark = none
            ∧ (∀ e, e < 256 → (∀ p ∈ read, p.1 ≠ e) → t.store.entry n e = 65535#16)
            ∧ (∀ p ∈ read, t.store.entry n p.1 = p.2)
            ∧ (∀ m e, m ≠ n → e < 256 → t.store.entry m e = s.store.entry m e)
            ∧ (∀ m, m ≠ n → t.store.slotRec m = s.store.slotRec m)
            ∧ (ok → t.store.slotRec n = ⟨.blank, 0, 0, false⟩ ∧ t.store.faults = s.store.faults)
            ∧ (¬ok → t.store.slotRec n = ⟨.damaged, 0, 0, false⟩ ∧ t.store.faults = min 65535 (s.store.faults + 1)))

/-- STORE WRITE: the tests in order, each with its reply; an accepted write makes the slot OPEN and marks the unit at once. At
its completion the four entries hold what was sent, or what read back otherwise; the cursor is the unit after; when all
four read as sent the result is OK, else the slot is DAMAGED with WRITE FAULT. That the completion does nothing with no
write in flight, that it carries what read back, and the layout and codes of STORE DONE are the model's choices (logs 4, 15 and
12). -/
def Obligations.StoreWrite : Prop :=
  (∀ (tag slot : Byte) (data : Quad) (unit : Option Byte) (s : State), s.ready → s.memoriesCanonical →
    let n := slot.toNat
    let r := s.store.slotRec n
    let u : Nat := match unit with
      | some b => b.toNat
      | none => r.cursor
    let c : Instr := .storeWrite tag slot data unit
    (39 < n → exec c s = .next (s.replied 0x16 tag .badIndex []))
    ∧ (n ≤ 39 → 62 < u → exec c s = .next (s.replied 0x16 tag .badIndex []))
    ∧ (n ≤ 39 → u ≤ 62 →
      (s.store.op ≠ none → exec c s = .next (s.replied 0x16 tag .busy []))
      ∧ (s.store.op = none →
        (s.inUse n = true → exec c s = .next (s.replied 0x16 tag .inUse []))
        ∧ (s.inUse n = false →
          (r.state = .valid → exec c s = .next (s.replied 0x16 tag .wrongState []))
          ∧ (r.state = .damaged → exec c s = .next (s.replied 0x16 tag .notValid []))
          ∧ (r.state = .blank ∨ r.state = .opened →
            (r.map.getLsbD u = true → exec c s = .next (s.replied 0x16 tag .notBlank []))
            ∧ (r.map.getLsbD u = false →
              ∃ t : State, exec c s = .next (t.replied 0x16 tag .ok []) ∧ t = { s with store := t.store }
                ∧ t.store.cells = s.store.cells ∧ t.store.faults = s.store.faults
                ∧ t.store.op = some ⟨.write, n, .write u data, []⟩ ∧ t.store.mark = some n
                ∧ t.store.slotRec n = { r with state := .opened, map := r.map ||| (1 <<< u) }
                ∧ ∀ m, m ≠ n → t.store.slotRec m = s.store.slotRec m))))))
    ∧ ∀ (read : List (Nat × Entry)) (s : State),
      ((∀ op, s.store.op = some op → op.kind ≠ .write) → exec (.storeWriteDone read) s = .next s)
      ∧ ∀ n u d, s.store.op = some ⟨.write, n, .write u d, []⟩ → u ≤ 62 → s.memoriesCanonical →
        (Instr.storeWriteDone read).wellFormed = true →
        ∃ t : State, exec (.storeWriteDone read) s = .next t
          ∧ (let sent (e : Nat) : Entry := ([d.e0, d.e1, d.e2, d.e3] : List Entry).getD (e - 4 * u) 0
            let inUnit (e : Nat) : Prop := 4 * u ≤ e ∧ e ≤ 4 * u + 3
            let ok : Prop := ∀ p ∈ read, inUnit p.1 → p.2 = sent p.1
            let r := s.store.slotRec n
            (∃ code : Int, (ok → code = 0) ∧ (¬ok → code = 2)
              ∧ t = { s with
                  store := t.store
                  link := s.link.queueEvent s.tb.cycle .storeDone [1, n, u, code, -2147483648] })
            ∧ t.store.op = none ∧ t.store.mark = none
            ∧ (∀ e, inUnit e → (∀ p ∈ read, p.1 ≠ e) → t.store.entry n e = sent e)
            ∧ (∀ p ∈ read, inUnit p.1 → t.store.entry n p.1 = p.2)
            ∧ (∀ m e, e < 256 → ¬(m = n ∧ inUnit e) → t.store.entry m e = s.store.entry m e)
            ∧ (∀ m, m ≠ n → t.store.slotRec m = s.store.slotRec m)
            ∧ (ok → t.store.slotRec n = { r with cursor := u + 1 } ∧ t.store.faults = s.store.faults)
            ∧ (¬ok → t.store.slotRec n = { r with state := .damaged, cursor := u + 1 }
              ∧ t.store.faults = min 65535 (s.store.faults + 1)))

/-- STORE CLOSE: the tests in order, each with its reply. At its completion entries 252 to 254 hold 65,535 and entry 255 the
CRC of entries 0 to 251, or what read back otherwise; the report carries the CRC; when all four read as sent the slot is
VALID, else DAMAGED with CLOSE FAULT. The CRC of the digits 1 to 9 is 0x29B1. That the completion does nothing
with no close in flight, that it carries what read back, and the layout and codes of STORE DONE, its CRC with a CLOSE FAULT among
them, are the model's choices (logs 4, 15 and 12). -/
def Obligations.StoreClose : Prop :=
  (∀ (tag slot : Byte) (s : State), s.ready →
    let n := slot.toNat
    let c : Instr := .storeClose tag slot
    (39 < n → exec c s = .next (s.replied 0x17 tag .badIndex []))
    ∧ (n ≤ 39 → s.store.op ≠ none → exec c s = .next (s.replied 0x17 tag .busy []))
    ∧ (n ≤ 39 → s.store.op = none → (s.store.slotRec n).state ≠ .opened →
      exec c s = .next (s.replied 0x17 tag .wrongState []))
    ∧ (n ≤ 39 → s.store.op = none → (s.store.slotRec n).state = .opened →
      let t : State := { s with store := { s.store with op := some ⟨.close, n, .close, []⟩, mark := some n } }
      exec c s = .next (t.replied 0x17 tag .ok [])))
    ∧ (∀ (read : List (Nat × Entry)) (s : State),
      ((∀ op, s.store.op = some op → op.kind ≠ .close) → exec (.storeCloseDone read) s = .next s)
      ∧ ∀ n, s.store.op = some ⟨.close, n, .close, []⟩ → s.memoriesCanonical →
        (Instr.storeCloseDone read).wellFormed = true →
        ∃ t : State, exec (.storeCloseDone read) s = .next t
          ∧ (let crc := crc16 (((List.range 252).map (s.store.entry n)).flatMap entryBytes)
            let sent (e : Nat) : Entry := if e = 255 then crc else 65535#16
            let ok : Prop := ∀ p ∈ read, p.2 = sent p.1
            let r := s.store.slotRec n
            (∃ code : Int, (ok → code = 0) ∧ (¬ok → code = 3)
              ∧ t = { s with
                  store := t.store
                  link := s.link.queueEvent s.tb.cycle .storeDone [2, n, -2147483648, code, (crc.toNat : Int)] })
            ∧ t.store.op = none ∧ t.store.mark = none
            ∧ (∀ e, 252 ≤ e → e < 256 → (∀ p ∈ read, p.1 ≠ e) → t.store.entry n e = sent e)
            ∧ (∀ p ∈ read, t.store.entry n p.1 = p.2)
            ∧ (∀ m e, e < 256 → ¬(m = n ∧ 252 ≤ e) → t.store.entry m e = s.store.entry m e)
            ∧ (∀ m, m ≠ n → t.store.slotRec m = s.store.slotRec m)
            ∧ (ok → t.store.slotRec n = { r with state := .valid } ∧ t.store.faults = s.store.faults)
            ∧ (¬ok → t.store.slotRec n = { r with state := .damaged }
              ∧ t.store.faults = min 65535 (s.store.faults + 1))))
    ∧ crc16 [0x31, 0x32, 0x33, 0x34, 0x35, 0x36, 0x37, 0x38, 0x39] = 0x29B1#16

/-- CAL SAVE and CONFIG SAVE are refused with BUSY while an operation runs. Accepted, they start the erase of their slot with
the contents fixed: for CAL SAVE the known zeros with their marks, and what a VALID slot held for the others; for CONFIG SAVE
the configuration as CONFIG SET left it, units 0 to 56. The steps that read back as sent run one after another without a return
to idle and without a report, each acting on the slot as the supervisor's operation does; the close ends the save with one
report. A step that ends in a fault ends the save, with the fault of that step and the slot DAMAGED. That SAVE_STEP_DONE does
nothing while no save is in flight, that it carries what read back, and the layout and codes of STORE DONE are the model's choices
(logs 4, 15 and 12). Entries 0 to 227 of the configuration slot are laid out as the configuration slot's table says.
That a stand removed in the cycle still has its zero known for a CAL SAVE is the model's choice (log 18). -/
def Obligations.Saves : Prop :=
  (∀ (tag : Byte) (s : State), s.ready →
     (s.store.op ≠ none →
       exec (.calSave tag) s = .next (s.replied 0x14 tag .busy [])
         ∧ exec (.configSave tag) s = .next (s.replied 0x04 tag .busy []))
     ∧ (s.store.op = none →
       (∃ d0 d1 : Quad,
         let t : State := { s with store := { s.store with
           op := some ⟨.calSave, 40, .erase, [.write 0 d0, .write 1 d1, .close]⟩, mark := some 40 } }
         exec (.calSave tag) s = .next (t.replied 0x14 tag .ok [])
           ∧ ∀ k, 1 ≤ k → k ≤ 7 →
             let entry : Entry := ([d0.e0, d0.e1, d0.e2, d0.e3, d1.e0, d1.e1, d1.e2] : List Entry).getD (k - 1) 0
             ((s.stand k).gcu.zeroKnown = true →
               entry = BitVec.ofInt 16 (s.stand k).gcu.zero ∧ d1.e3.getLsbD (k - 1) = true)
             ∧ ((s.stand k).gcu.zeroKnown = false → (s.store.slotRec 40).state = .valid →
               entry = s.store.entry 40 (k - 1) ∧ d1.e3.getLsbD (k - 1) = (s.store.entry 40 7).getLsbD (k - 1))
             ∧ ((s.stand k).gcu.zeroKnown = false → (s.store.slotRec 40).state ≠ .valid →
               entry = 0 ∧ d1.e3.getLsbD (k - 1) = false))
       ∧ ∃ steps : List OpStep,
         let t : State := { s with store := { s.store with op := some ⟨.configSave, 41, .erase, steps⟩, mark := some 41 } }
         exec (.configSave tag) s = .next (t.replied 0x04 tag .ok []) ∧ steps.length = 58 ∧ steps[57]? = some .close
           ∧ ∀ u, u < 57 → ∃ d : Quad, steps[u]? = some (.write u d)
             ∧ [d.e0, d.e1, d.e2, d.e3] = (List.range 4).map (fun i => s.conf.toSlot.getD (4 * u + i) 65535#16)))
    ∧ (∀ c : Conf,
      let held (i : Nat) (v : Int) : Prop := c.toSlot.getD i 0 = BitVec.ofInt 16 v
      c.toSlot.length = 228
      ∧ (∀ p ∈ ([(0, c.standCount), (1, c.period), (2, c.preferred), (3, c.zones.z1), (4, c.zones.z2), (5, c.zones.z3),
          (6, c.zones.z4), (7, c.zones.z5), (8, c.zones.z6), (9, c.release), (10, c.wEarly), (11, c.wHead), (12, c.wTail),
          (13, c.clearance), (225, 65535), (226, 65535), (227, 65535)] : List (Nat × Int)), held p.1 p.2)
      ∧ (∀ g, g < 3 →
        let x := c.gauges.get (g + 1)
        held (14 + 4 * g) x.zone ∧ held (15 + 4 * g) x.dist ∧ held (16 + 4 * g) x.bound ∧ held (17 + 4 * g) x.divider)
      ∧ (∀ ch, ch < 24 → held (26 + 3 * ch) (c.scaling ch).gain
        ∧ c.toSlot.getD (27 + 3 * ch) 0 ++ c.toSlot.getD (28 + 3 * ch) 0 = BitVec.ofInt 32 (c.scaling ch).offset)
      ∧ (∀ k, k < 7 →
        let x := c.stands.get (k + 1)
        ∀ p ∈ ([(0, x.fOn), (1, x.fOff), (2, x.tolerance), (3, x.followLimit), (4, x.nFollow), (5, x.runawayLimit), (6, x.nRun),
            (7, x.sMin), (8, x.sMax), (9, x.curveSlot), (10, x.escapeGap), (11, x.escapeSlew), (12, x.mLimit), (13, x.tLimit),
            (14, x.speedSlew), (15, x.speedRamp)] : List (Nat × Int)),
          held (98 + 16 * k + p.1) p.2)
      ∧ ∀ r, r < 15 →
        let x := c.matrix.row r
        held (210 + r) (x.own + 8 * x.same + 64 * x.other + 512 * x.withdraw))
    ∧ ∀ s : State,
      (∀ read, (∀ op, s.store.op = some op → op.kind ≠ .calSave ∧ op.kind ≠ .configSave) →
        exec (.saveStepDone read) s = .next s)
      ∧ ∀ (kind : OpKind) (n : Nat), kind = .calSave ∨ kind = .configSave → s.memoriesCanonical →
        (∀ u d rest, s.store.op = some ⟨kind, n, .erase, .write u d :: rest⟩ → u ≤ 62 →
          ∃ t : State, exec (.saveStepDone []) s = .next t ∧ t = { s with store := t.store }
            ∧ t.store.op = some ⟨kind, n, .write u d, rest⟩ ∧ t.store.mark = some n
            ∧ (∀ e, e < 256 → t.store.entry n e = 65535#16)
            ∧ t.store.slotRec n = ⟨.opened, 1 <<< u, 0, false⟩ ∧ (∀ m, m ≠ n → t.store.slotRec m = s.store.slotRec m)
            ∧ t.store.faults = s.store.faults
            ∧ ∀ m e, m ≠ n → e < 256 → t.store.entry m e = s.store.entry m e)
        ∧ (∀ u d next rest, s.store.op = some ⟨kind, n, .write u d, next :: rest⟩ → u ≤ 62 →
          ∃ t : State, exec (.saveStepDone []) s = .next t ∧ t = { s with store := t.store }
            ∧ t.store.op = some ⟨kind, n, next, rest⟩ ∧ t.store.mark = some n
            ∧ t.store.entry n (4 * u) = d.e0 ∧ t.store.entry n (4 * u + 1) = d.e1
            ∧ t.store.entry n (4 * u + 2) = d.e2 ∧ t.store.entry n (4 * u + 3) = d.e3
            ∧ (let r := s.store.slotRec n
              (next = .close → t.store.slotRec n = { r with cursor := u + 1 })
              ∧ ∀ v d', next = .write v d' →
                t.store.slotRec n = { r with state := .opened, map := r.map ||| (1 <<< v), cursor := u + 1 })
            ∧ (∀ m, m ≠ n → t.store.slotRec m = s.store.slotRec m) ∧ t.store.faults = s.store.faults
            ∧ ∀ m e, e < 256 → ¬(m = n ∧ 4 * u ≤ e ∧ e ≤ 4 * u + 3) → t.store.entry m e = s.store.entry m e)
        ∧ (s.store.op = some ⟨kind, n, .close, []⟩ →
          ∃ t : State, exec (.saveStepDone []) s = .next t
            ∧ t = { s with
                store := t.store
                link := s.link.queueEvent s.tb.cycle .storeDone [kind.code, n, -2147483648, 0, -2147483648] }
            ∧ t.store.op = none ∧ t.store.mark = none ∧ t.store.slotRec n = { s.store.slotRec n with state := .valid }
            ∧ (∀ m, m ≠ n → t.store.slotRec m = s.store.slotRec m) ∧ t.store.faults = s.store.faults
            ∧ t.store.entry n 252 = 65535#16 ∧ t.store.entry n 253 = 65535#16 ∧ t.store.entry n 254 = 65535#16
            ∧ t.store.entry n 255 = crc16 (((List.range 252).map (s.store.entry n)).flatMap entryBytes)
            ∧ ∀ m e, e < 256 → ¬(m = n ∧ 252 ≤ e) → t.store.entry m e = s.store.entry m e)
        ∧ (let faulty (e : Nat) (x : Entry) (code : Int) (first last : Nat) (sent : Nat → Entry) (r : SlotRec) : Prop :=
            ∃ t : State, exec (.saveStepDone [(e, x)]) s = .next t
              ∧ t = { s with
                  store := t.store
                  link := s.link.queueEvent s.tb.cycle .storeDone [kind.code, n, -2147483648, code, -2147483648] }
              ∧ t.store.op = none ∧ t.store.mark = none ∧ t.store.slotRec n = { r with state := .damaged }
              ∧ (∀ m, m ≠ n → t.store.slotRec m = s.store.slotRec m)
              ∧ t.store.faults = min 65535 (s.store.faults + 1)
              ∧ t.store.entry n e = x
              ∧ (∀ i, first ≤ i → i ≤ last → i ≠ e → t.store.entry n i = sent i)
              ∧ ∀ m i, i < 256 → ¬(m = n ∧ first ≤ i ∧ i ≤ last) → t.store.entry m i = s.store.entry m i
          let r := s.store.slotRec n
          (∀ rest e x, s.store.op = some ⟨kind, n, .erase, rest⟩ → e < 256 → x ≠ 65535#16 →
            faulty e x 1 0 255 (fun _ => 65535#16) ⟨.damaged, 0, 0, false⟩)
          ∧ (∀ u d rest e x, s.store.op = some ⟨kind, n, .write u d, rest⟩ → u ≤ 62 → 4 * u ≤ e → e ≤ 4 * u + 3 →
            x ≠ ([d.e0, d.e1, d.e2, d.e3] : List Entry).getD (e - 4 * u) 0 →
            faulty e x 2 (4 * u) (4 * u + 3) (fun i => ([d.e0, d.e1, d.e2, d.e3] : List Entry).getD (i - 4 * u) 0)
              { r with cursor := u + 1 })
          ∧ ∀ e x, s.store.op = some ⟨kind, n, .close, []⟩ → 252 ≤ e → e < 256 →
            x ≠ (if e = 255 then s.store.slotCrc n else 65535#16) →
            faulty e x 3 252 255 (fun i => if i = 255 then s.store.slotCrc n else 65535#16) r)

/-! ### Requests that read -/

/-- The requests that read change nothing. IDENT answers part code 6, the silicon revision, link rate, N, Tc, the two queue
depths and the two counts; CONFIG GET the fields named, or BAD_INDEX when one does not exist; STATUS READ the group named, or
BAD_INDEX for an unknown group or a stand outside 1 to N. TRACK READ and TRIP LIST READ: a start beyond the list gives BAD_INDEX,
a count of 0 or above 3 is taken as 3 with CLAMPED; the reply carries the cycle count, the counts and next numbers, the bars or
the line levels and the stands' trip records, and the records from the start position on. STORE READ gives BAD_INDEX for a slot
above 41, BUSY for the busy slot, and else the slot's state and its entries from the first on, at most 60 and none beyond entry
255, with CLAMPED when the count named is not the count returned. STORE STATUS gives BAD_INDEX above slot 41 and else up to 8
slot records and the operation. Every record is written out field by field in the order of its owning rule: TRAIN is the timebase record,
the line levels, the emergency stops, the gauge channels, the staged buffer and the operation record; STAND the stand record with the
configured limits beside those in force, the three channels and the trip record; CONTROL the GCU record without its curve and the SCU
record; CURVE the points and the source slot; CALIBRATION the calibration record, the zero and its known mark; and the codes of the named
values are listed. How a record is laid out as fields of four bytes, the codes that section 11.6 does not give, that a curve not loaded is
sent as no points and an absent slot and a loaded one with its curve slot 0 to 7, and that a channel record shows the configuration as
CONFIG SET last left it, are the model's choices (log 12), and so is that the last edge time is a number without a width (log 3). -/
def Obligations.RequestsThatRead : Prop :=
  let mark (b : Bool) : Int := if b then 1 else 0
  let value (v : Option Int) : Int := v.getD (-2147483648)
  let number (v : Option Nat) : Int := value (v.map Int.ofNat)
  let driven (v : Option Int) : Int := v.getD (-2147483647)
  let listed (rows : List (List Int)) : List Int := (rows.length : Int) :: rows.flatten
  let lines (s : State) : List Int := [0, 1, 2, 3].map (fun i => mark (s.lineLevel i))
  let channel (c : Chan) (x : Scaling) : List Int :=
    [x.gain, x.offset, c.value, mark c.overRange, c.status.code, (c.age : Int), (c.misses : Int)]
  let standChannel (c : Chan) (x : Scaling) : List Int := channel c x ++ [mark c.lostCond, (c.recovery : Int)]
  let sourceSet (ids : List SourceId) : List Int :=
    let byte (j : Nat) : Byte := BitVec.ofNat 8
      ((ids.filter (fun x => x.kind.code = j)).map (fun x => 2 ^ (if x.kind.code < 4 then 0 else x.index.getD 0))).sum
    [0, 4, 8, 12].map (fun j => (byte j ++ byte (j + 1) ++ byte (j + 2) ++ byte (j + 3)).toInt)
  let trip (t : StandTrip) : List Int :=
    [mark t.latch, (t.action.rank : Int)] ++ sourceSet t.sources ++ [(t.union.toNat : Int)]
  let operation (st : Store) : List Int :=
    match st.op with
    | none => [0, -2147483648, -2147483648, -2147483648, (st.faults : Int)]
    | some ⟨kind, slot, .write unit _, _⟩ => [1, kind.code, (slot : Int), (unit : Int), (st.faults : Int)]
    | some op => [1, op.kind.code, (op.slot : Int), -2147483648, (st.faults : Int)]
  let tune (t : Tune) : List Int :=
    [t.kp, t.kpShift, t.ki, t.kiShift, t.g, t.q, t.ePos, t.eNeg, t.iLim, t.hi, t.lo, t.rollSlew, t.mg].map value
  let train (s : State) : List Int :=
    [s.tb.state.code, s.tb.period, s.conf.preferred, mark s.tb.pendingInternal, s.tb.cycle.toInt, s.tb.lastLen,
        (s.tb.goodRun : Int), (s.tb.qualCount : Int), number s.tb.lastEdge, (s.tb.holdover : Int)]
      ++ lines s
      ++ [s.estops.l0, s.estops.l1, s.estops.l2, s.estops.l3].flatMap (fun e => [mark (!e.active), mark e.level, (e.run : Int)])
      ++ [(s.gauges.g1, s.conf.gauges.g1), (s.gauges.g2, s.conf.gauges.g2), (s.gauges.g3, s.conf.gauges.g3)].flatMap
          (fun p => channel p.1 p.2.scale ++ [p.2.divider, value (p.1.lastSample.map BitVec.toInt)])
      ++ (match s.images.staged with
        | none => [-2147483648, -2147483648, -2147483648]
        | some x => [x.sched.id, (x.slot : Int), mark x.rep])
      ++ operation s.store
  let standGroup (st : Stand) (c : StandConf) : List Int :=
    let r := st.sc
    let target : Int := match r.target with
      | .bar id => (id : Int)
      | .staged => 0
      | .nothing => -2147483648
    [r.state.code, mark r.loaded, (r.loadOnRun : Int), (r.loadOffRun : Int), target, number r.served, (r.posRun : Int),
        (r.threadCount : Int), r.firstSign.code, (r.followRun.count : Int), (r.runawayRun.count : Int), driven r.gapRef,
        driven st.scu.speedRef, driven r.prevGap, r.sMin, r.sMax, c.sMin, c.sMax]
      ++ standChannel st.chans.gap c.gapScale ++ standChannel st.chans.force c.forceScale
      ++ standChannel st.chans.speed c.speedScale ++ trip st.trip
  let controlGroup (g : Gcu) (u : Scu) : List Int :=
    [g.zero, mark g.zeroKnown, g.iacc, g.monitor, g.clamp.code, g.prevClamp.code] ++ tune g.live
      ++ (match g.pendingTune with
        | none => 0 :: List.replicate 13 (-2147483648)
        | some t => 1 :: tune t)
      ++ [g.q.hEst, g.q.eRaw, g.q.e, g.q.i, g.q.c, g.q.dS, g.q.sRef].map value
      ++ [value (u.mode.map Mode.code), value u.ratio, value u.trim, mark u.trimHigh, mark u.trimLow, value u.demand,
        mark u.slewLimited, mark u.rangeLimited, driven u.speedRef, driven u.prevSpeed]
  let curveGroup (g : Gcu) : List Int :=
    match g.curve with
    | none => [0, -2147483648]
    | some c => listed (c.points.map (fun p => [p.1, p.2])) ++ [(c.slot : Int)]
  let calGroup (c : Cal) (g : Gcu) : List Int :=
    [c.phase.code, c.kissForce, c.closeRate, c.startGap, value c.kissRef, (c.holdCount : Int), c.sumS, c.sumF, value c.sAvg,
      value c.fAvg, c.oldZero, value c.candidate, c.result.code, value (c.prior.map CalResult.code), g.zero, mark g.zeroKnown]
  let bar (b : Bar) : List Int :=
    [(b.id : Int), (b.copy : Int), (b.slot : Int), (b.furthest : Int), number b.missed, mark b.tailBorn, mark b.trackFull]
  let segment (x : Seg) : List Int :=
    [(x.seq : Int), (x.bar : Int), x.kind.code, (x.zone : Int), x.dist, x.birth.toInt]
      ++ listed (x.ests.map (fun e => [(e.stand : Int), value e.thickness, e.hRef, mark e.startup]))
      ++ listed (x.reads.map (fun r => [(r.gauge : Int), r.thickness]))
  let tripRecord (r : TripRecord) : List Int :=
    [(r.number : Int), r.cycle.toInt, (r.kind.code : Int), number r.index, number r.bar]
      ++ listed (r.affected.map (fun a => [(a.stand : Int), (a.given.rank : Int), (a.after.rank : Int)]))
      ++ (match r.snap with
        | none => List.replicate 5 (-2147483648)
        | some x => [x.cycle.toInt, x.gap, x.force, value x.eRaw, driven x.gapRef])
      ++ [mark r.cleared]
  let slotRecord (r : SlotRec) : List Int :=
    [r.state.code, ((r.map.toNat / 2 ^ 32 : Nat) : Int), (BitVec.ofNat 32 r.map.toNat).toInt, (r.cursor : Int), mark r.damage]
  ([TbState.internal, .qualifying, .locked].map TbState.code = [0, 1, 2]
    ∧ [StandState.parked, .calibrating, .positioning, .ready, .threading, .rolling, .tailout, .tripped].map StandState.code
      = [0, 1, 2, 3, 4, 5, 6, 7]
    ∧ [ChanStatus.ok, .held, .lost].map ChanStatus.code = [0, 1, 2]
    ∧ [Sign.nothing, .negative, .positive].map Sign.code = [0, 1, 2]
    ∧ [Phase.nothing, .closing, .holding, .opening].map Phase.code = [0, 1, 2, 3]
    ∧ [CalResult.ok, .noKiss, .unsteady, .zeroRange, .aborted, .measurementLost, .tripped].map CalResult.code
      = [0, 1, 2, 3, 4, 5, 6]
    ∧ [SlotState.blank, .opened, .valid, .damaged].map SlotState.code = [0, 1, 2, 3]
    ∧ [OpKind.erase, .write, .close, .calSave, .configSave].map OpKind.code = [0, 1, 2, 3, 4]
    ∧ [Mode.off, .single, .successive].map Mode.code = [0, 1, 2]
    ∧ [SegKind.head, .body, .tail].map SegKind.code = [0, 1, 2]
    ∧ [Action.nothing, .warn, .hold, .opening, .release].map Action.rank = [0, 1, 2, 3, 4]
    ∧ [Kind.estop0, .estop1, .estop2, .estop3, .host, .measurementLost, .headMissed, .unexpectedLoad, .unreadyStand, .loadLost,
        .runaway, .followError, .syncLost, .barAbandoned, .barOverflow, .reset].map Kind.code = List.range 16
    ∧ ∀ m : Marks, m.code = mark m.errHigh + 2 * mark m.errLow + 4 * mark m.outHigh + 8 * mark m.outLow)
  ∧ (∀ (tag : Byte) (s : State), s.ready →
     exec (.ident tag) s
       = .next (s.replied 0x01 tag .ok [6, (Config.siliconRevision : Int), (s.link.rate : Int), s.conf.standCount,
           s.conf.period, 4, 32, (s.link.discards : Int), (s.link.overruns : Int)])
     ∧ (∀ pairs : List (Byte × Byte),
       ((∀ p ∈ pairs, fieldExists p.1.toNat p.2.toNat = true) →
         exec (.configGet tag pairs) s
           = .next (s.replied 0x02 tag .ok (pairs.map (fun p => s.conf.field p.1.toNat p.2.toNat))))
       ∧ ((∃ p ∈ pairs, fieldExists p.1.toNat p.2.toNat = false) →
         exec (.configGet tag pairs) s = .next (s.replied 0x02 tag .badIndex [])))
     ∧ ∀ k : Byte,
       exec (.statusRead tag 0 k) s = .next (s.replied 0x08 tag .ok (train s))
       ∧ (1 ≤ k.toNat → k.toNat ≤ s.conf.n →
         exec (.statusRead tag 1 k) s = .next (s.replied 0x08 tag .ok (standGroup (s.stand k.toNat) (s.conf.stands.get k.toNat)))
         ∧ exec (.statusRead tag 2 k) s = .next (s.replied 0x08 tag .ok (controlGroup (s.stand k.toNat).gcu (s.stand k.toNat).scu))
         ∧ exec (.statusRead tag 3 k) s = .next (s.replied 0x08 tag .ok (curveGroup (s.stand k.toNat).gcu))
         ∧ exec (.statusRead tag 4 k) s = .next (s.replied 0x08 tag .ok (calGroup (s.stand k.toNat).cal (s.stand k.toNat).gcu)))
       ∧ ∀ g : Byte, 4 < g.toNat ∨ (1 ≤ g.toNat ∧ (k.toNat = 0 ∨ s.conf.n < k.toNat)) →
         exec (.statusRead tag g k) s = .next (s.replied 0x08 tag .badIndex []))
    ∧ ((∀ (tag count : Byte) (start : BitVec 16) (s : State), s.ready →
      let n := if count.toNat = 0 ∨ 3 < count.toNat then 3 else count.toNat
      let code : Code := if count.toNat = 0 ∨ 3 < count.toNat then .clamped else .ok
      let segs := (s.track.segs.drop start.toNat).take n
      (s.track.segs.length < start.toNat → exec (.trackRead tag start count) s = .next (s.replied 0x09 tag .badIndex []))
      ∧ (start.toNat ≤ s.track.segs.length →
        exec (.trackRead tag start count) s
          = .next (s.replied 0x09 tag code
              ([s.tb.cycle.toInt, (s.track.segs.length : Int), (s.track.nextSeq : Int), (s.track.nextBar : Int)]
                ++ listed (s.track.bars.map bar) ++ listed (segs.map segment)))))
      ∧ ∀ (tag start count : Byte) (s : State), s.ready →
        let n := if count.toNat = 0 ∨ 3 < count.toNat then 3 else count.toNat
        let code : Code := if count.toNat = 0 ∨ 3 < count.toNat then .clamped else .ok
        let recs := (s.trips.records.drop start.toNat).take n
        let stands := [1, 2, 3, 4, 5, 6, 7].filter (fun k => decide (k ≤ s.conf.n))
        (s.trips.records.length < start.toNat →
          exec (.tripListRead tag start count) s = .next (s.replied 0x11 tag .badIndex []))
        ∧ (start.toNat ≤ s.trips.records.length →
          exec (.tripListRead tag start count) s
            = .next (s.replied 0x11 tag code
                ([s.tb.cycle.toInt, (s.trips.next : Int), (s.trips.records.length : Int)] ++ lines s
                  ++ listed (stands.map (fun k => trip (s.stand k).trip)) ++ listed (recs.map tripRecord)))))
    ∧ ∀ (tag : Byte) (s : State), s.ready →
      (∀ slot first count : Byte,
        let c : Instr := .storeRead tag slot first count
        let n := min (if count.toNat = 0 ∨ 60 < count.toNat then 60 else count.toNat) (256 - first.toNat)
        let code : Code := if n = count.toNat then .ok else .clamped
        let busy : Prop := ∃ op, s.store.op = some op ∧ op.slot = slot.toNat
        (41 < slot.toNat → exec c s = .next (s.replied 0x18 tag .badIndex []))
        ∧ (slot.toNat ≤ 41 → busy → exec c s = .next (s.replied 0x18 tag .busy []))
        ∧ (slot.toNat ≤ 41 → ¬busy →
          exec c s
            = .next (s.replied 0x18 tag code
                ((s.store.slotRec slot.toNat).state.code :: (n : Int)
                  :: (List.range n).map (fun i => ((s.store.entry slot.toNat (first.toNat + i)).toNat : Int))))))
      ∧ ∀ first : Byte,
        (41 < first.toNat → exec (.storeStatus tag first) s = .next (s.replied 0x19 tag .badIndex []))
        ∧ (first.toNat ≤ 41 →
          let n := min 8 (42 - first.toNat)
          exec (.storeStatus tag first) s
            = .next (s.replied 0x19 tag .ok
                (listed ((List.range n).map (fun i => slotRecord (s.store.slotRec (first.toNat + i)))) ++ operation s.store)))

/-! ### Requests that change units -/

/-- CONFIG SET is judged as a whole: a field that does not exist gives BAD_INDEX; a copy with the items applied that differs in a structural
field gives WRONG_STATE unless the train is idle; one that binds two gauges to one stand gives BAD_INDEX. Else the copy with every field
clamped becomes the configuration, in force from the next cycle, and the reply is CLAMPED if a number was clamped. With N unchanged
nothing else moves but the waiting mark of the limits; a change of N empties the staged buffer (its slot with pending damage that no
other image names becomes DAMAGED, with the mark cleared as log 24 chooses), and the stands removed lose their
latches, the stands added are PARKED with theirs clear; a stand in force for the cycle keeps its channels and every quantity of the
cycle to its end. A lowering of N takes the stands
beyond it out of the subscription as it will be from the next cycle, and a channel that traces one of them has lost it from then on. The
clamps give each field its range, and then the orderings of d_g, the release distance and W_tail. That a stand removed is PARKED with no
bar at once, and when a stand added comes into use, are the model's choices (logs 18 and 1), and so is that a coded field is clamped as
a number is (log 25); that the loss of its stand stays with the channel is read from R170 (log 47). The fields have the codes 1 to 35 and the indexes that R189
gives: which pairs exist, what each pair reads, and that a replaced field is the one that reads the new value while every other pair reads
as before; the pairs together are the whole configuration, and the structural ones are those of codes 1, 2, 4, 5, 10 to 12, 14 and 15. -/
def Obligations.ConfigSet : Prop :=
  (∀ (tag : Byte) (items : List (Byte × Byte × BitVec 32)) (s : State), s.ready →
    let c : Instr := .configSet tag items
    let exist : Prop := ∀ i ∈ items, fieldExists i.1.toNat i.2.1.toNat = true
    let copy := items.foldl (fun c i => c.setField i.1.toNat i.2.1.toNat i.2.2.toInt) s.conf
    let idle : Prop := s.track.bars = [] ∧ ∀ k, 1 ≤ k → k ≤ 7 → k ≤ s.conf.n →
      (s.stand k).sc.state = .parked ∨ (s.stand k).sc.state = .tripped
    let code : Code := if copy.clamped = copy then .ok else .clamped
    let keeps (k : Nat) (t : State) : Prop :=
      let a := s.stand k
      let b := t.stand k
      b.chans = a.chans ∧ b.ctx = a.ctx ∧ b.scu = a.scu ∧ b.gcu.q = a.gcu.q ∧ b.gcu.qPrev = a.gcu.qPrev ∧ b.gcu.live = a.gcu.live
        ∧ b.gcu.clamp = a.gcu.clamp ∧ b.gcu.prevClamp = a.gcu.prevClamp ∧ b.gcu.monitor = a.gcu.monitor
        ∧ b.sc.gapRef = a.sc.gapRef ∧ b.sc.prevGap = a.sc.prevGap ∧ b.sc.formed = a.sc.formed ∧ b.sc.loaded = a.sc.loaded
        ∧ b.sc.sMin = a.sc.sMin ∧ b.sc.sMax = a.sc.sMax
    (¬exist → exec c s = .next (s.replied 0x03 tag .badIndex []))
    ∧ (exist → copy.structural ≠ s.conf.structural → ¬idle → exec c s = .next (s.replied 0x03 tag .wrongState []))
    ∧ (exist → copy.structural = s.conf.structural ∨ idle →
      (copy.clamped.doubleBinding = true → exec c s = .next (s.replied 0x03 tag .badIndex []))
      ∧ (copy.clamped.doubleBinding = false →
        ∃ t : State, exec c s = .next (t.replied 0x03 tag code []) ∧ t.conf = copy.clamped
          ∧ t.tb = s.tb ∧ t.estops = s.estops ∧ t.gauges = s.gauges ∧ t.force = s.force ∧ t.track = s.track
          ∧ t.trace = { s.trace with chans := t.trace.chans } ∧ t.lowN = (if copy.clamped.n = s.conf.n then s.lowN else min s.lowN copy.clamped.n)
          ∧ (∀ ch, ch < 8 →
            let x := s.trace.chans.get ch
            let leaves : Prop := copy.clamped.n < s.conf.n ∧ (∃ k, x.index = some k ∧ copy.clamped.n < k)
              ∧ x.quantity ≠ none ∧ x.quantity ≠ some .gauge ∧ x.quantity ≠ some .cycleLength
            (leaves → t.trace.chans.get ch = { x with presence := if x.presence = .here then .leaving else x.presence })
            ∧ (¬leaves → t.trace.chans.get ch = x))
          ∧ t.store.cells = s.store.cells ∧ t.store.op = s.store.op ∧ t.fresh = s.fresh ∧ t.pending = s.pending
          ∧ t.images.copy0 = s.images.copy0 ∧ t.images.copy1 = s.images.copy1
          ∧ (copy.clamped.n = s.conf.n →
            t = { s with conf := copy.clamped, stands := t.stands }
            ∧ ∀ k, 1 ≤ k → k ≤ 7 → ∃ w, t.stand k = { s.stand k with sc := { (s.stand k).sc with limWait := w } }
              ∧ ((s.stand k).sc.gapRef ≠ none →
                (w = true ↔ (copy.clamped.stands.get k).sMin ≠ (s.stand k).sc.sMin
                  ∨ (copy.clamped.stands.get k).sMax ≠ (s.stand k).sc.sMax)))
          ∧ (copy.clamped.n ≠ s.conf.n →
            t.images.staged = none
            ∧ (s.memoriesCanonical → s.damageSettled t (s.images.staged.map Staged.slot))
            ∧ (copy.clamped.n < s.conf.n →
              let next := s.link.subNext.getD s.link.sub
              (next = none → t.link.subNext = some none)
              ∧ ∀ x, next = some x →
                let left := x.stands.filter (fun k => decide (k ≤ copy.clamped.n))
                t.link.subNext = some (if left = [] then none else some ⟨x.exponent, left⟩))
            ∧ (∀ k, copy.clamped.n < k → k ≤ 7 → k ≤ s.conf.n →
              (t.stand k).trip = .clear ∧ (t.stand k).sc.state = .parked ∧ (t.stand k).sc.served = none
                ∧ (t.stand k).lostSrc = false ∧ keeps k t)
            ∧ (∀ k, s.conf.n < k → k ≤ 7 → k ≤ copy.clamped.n →
              (t.stand k).trip = .clear ∧ (t.stand k).sc.state = .parked ∧ (t.stand k).lostSrc = false
                ∧ (t.stand k).gcu.zero = 0 ∧ (t.stand k).gcu.zeroKnown = false ∧ (t.stand k).gcu.curve = none
                ∧ (t.stand k).gcu.pendingTune = none
                ∧ (k ≤ s.force.n → keeps k t)
                ∧ (s.force.n < k → (t.stand k).sc.gapRef = none ∧ (t.stand k).chans = .reset false))))))
    ∧ (∀ c : Conf,
      let d := c.clamped
      let within (lo hi v : Int) : Int := max lo (min hi v)
      d.standCount = within 2 7 c.standCount ∧ d.preferred = within 0 1 c.preferred
      ∧ d.period = (if c.period ≤ 750 then 500 else if c.period ≤ 1500 then 1000 else 2000)
      ∧ (∀ z, 1 ≤ z → z ≤ 6 → d.zones.get z = within 1000 12000 (c.zones.get z))
      ∧ d.wEarly = within 0 3000 c.wEarly ∧ d.wHead = within 0 3000 c.wHead ∧ d.clearance = within 200 5000 c.clearance
      ∧ (let inner (z : Nat) : Prop := 1 ≤ z ∧ (z : Int) < d.standCount
        let w := within 0 3000 c.wTail
        (∀ z, inner z → d.wTail < d.zones.get z) ∧ d.wTail ≤ w
          ∧ (d.wTail = w ∨ ∃ z, inner z ∧ d.wTail = d.zones.get z - 1))
      ∧ (let last (g : Nat) : Prop := 1 ≤ g ∧ g ≤ 3 ∧ (d.gauges.get g).zone = d.standCount
        let r := within 2000 30000 c.release
        (∀ g, last g → (d.gauges.get g).dist < d.release) ∧ r ≤ d.release
          ∧ (d.release = r ∨ ∃ g, last g ∧ d.release = (d.gauges.get g).dist + 1))
      ∧ (∀ g, 1 ≤ g → g ≤ 3 →
        let x := c.gauges.get g
        let y := d.gauges.get g
        let far := within 1 29999 x.dist
        let len := d.zones.get y.zone.toNat
        y.zone = within 0 7 x.zone ∧ y.bound = within 0 1 x.bound ∧ y.divider = within 0 6 x.divider
          ∧ y.dist = if 1 ≤ y.zone ∧ y.zone < d.standCount ∧ len ≤ far then len - 1 else far)
      ∧ (∀ ch, ch < 24 → (d.scaling ch).gain = within (-32768) 32767 (c.scaling ch).gain
        ∧ (d.scaling ch).offset = within (-65535) 65535 (c.scaling ch).offset)
      ∧ (∀ k, 1 ≤ k → k ≤ 7 →
        let x := c.stands.get k
        let y := d.stands.get k
        y.escapeGap = within 0 60000 x.escapeGap ∧ y.escapeSlew = within 1 2000 x.escapeSlew
          ∧ y.mLimit = within 0 2000 x.mLimit ∧ y.tLimit = within 0 50000 x.tLimit
          ∧ y.speedSlew = within 1 2000 x.speedSlew ∧ y.speedRamp = within 1 5000 x.speedRamp)
      ∧ ∀ i, i < 15 →
        let x := c.matrix.row i
        let y := d.matrix.row i
        y.own = within 0 4 x.own ∧ y.same = within 0 4 x.same ∧ y.other = within 0 4 x.other
          ∧ y.withdraw = within 0 15 x.withdraw)
    ∧ (∀ code index : Nat, fieldExists code index = true ↔
      (code ∈ [1, 2, 3, 5, 6, 7, 8, 9] ∧ index = 0) ∨ (code = 4 ∧ 1 ≤ index ∧ index ≤ 6)
      ∨ (10 ≤ code ∧ code ≤ 13 ∧ 1 ≤ index ∧ index ≤ 3) ∨ (14 ≤ code ∧ code ≤ 15 ∧ index ≤ 23)
      ∨ (16 ≤ code ∧ code ≤ 31 ∧ 1 ≤ index ∧ index ≤ 7) ∨ (32 ≤ code ∧ code ≤ 35 ∧ index ≤ 14))
    ∧ (∀ c : Conf,
      let gauges := [(1, c.gauges.g1), (2, c.gauges.g2), (3, c.gauges.g3)]
      let stands := [(1, c.stands.s1), (2, c.stands.s2), (3, c.stands.s3), (4, c.stands.s4), (5, c.stands.s5), (6, c.stands.s6),
        (7, c.stands.s7)]
      let m := c.matrix
      let rows := [(0, m.estop0), (1, m.estop1), (2, m.estop2), (3, m.estop3), (4, m.host), (5, m.measurementLost),
        (6, m.headMissed), (7, m.unexpectedLoad), (8, m.unreadyStand), (9, m.loadLost), (10, m.runaway), (11, m.followError),
        (12, m.syncLost), (13, m.barAbandoned), (14, m.barOverflow)]
      [1, 2, 3, 5, 6, 7, 8, 9].map (fun code => c.field code 0)
        = [c.standCount, c.period, c.preferred, c.release, c.wEarly, c.wHead, c.wTail, c.clearance]
      ∧ [1, 2, 3, 4, 5, 6].map (c.field 4) = [c.zones.z1, c.zones.z2, c.zones.z3, c.zones.z4, c.zones.z5, c.zones.z6]
      ∧ (∀ p ∈ gauges, [10, 11, 12, 13].map (fun code => c.field code p.1) = [p.2.zone, p.2.dist, p.2.bound, p.2.divider]
        ∧ [14, 15].map (fun code => c.field code (20 + p.1)) = [p.2.scale.gain, p.2.scale.offset])
      ∧ (∀ p ∈ stands,
        [14, 15].map (fun code => c.field code (3 * (p.1 - 1))) = [p.2.gapScale.gain, p.2.gapScale.offset]
        ∧ [14, 15].map (fun code => c.field code (3 * (p.1 - 1) + 1)) = [p.2.forceScale.gain, p.2.forceScale.offset]
        ∧ [14, 15].map (fun code => c.field code (3 * (p.1 - 1) + 2)) = [p.2.speedScale.gain, p.2.speedScale.offset]
        ∧ (List.range 16).map (fun i => c.field (16 + i) p.1)
          = [p.2.fOn, p.2.fOff, p.2.tolerance, p.2.followLimit, p.2.nFollow, p.2.runawayLimit, p.2.nRun, p.2.sMin, p.2.sMax,
            p.2.curveSlot, p.2.escapeGap, p.2.escapeSlew, p.2.mLimit, p.2.tLimit, p.2.speedSlew, p.2.speedRamp])
      ∧ ∀ p ∈ rows, [32, 33, 34, 35].map (fun code => c.field code p.1) = [p.2.own, p.2.same, p.2.other, p.2.withdraw])
    ∧ (∀ (c : Conf) (code index : Nat) (v : Int), fieldExists code index = true →
      ∀ code' index' : Nat, fieldExists code' index' = true →
        (c.setField code index v).field code' index' = if code' = code ∧ index' = index then v else c.field code' index')
    ∧ (∀ c d : Conf, (∀ code index, fieldExists code index = true → c.field code index = d.field code index) → c = d)
    ∧ (∀ c d : Conf, c.structural = d.structural ↔
      ∀ code index, code ∈ [1, 2, 4, 5, 10, 11, 12, 14, 15] → fieldExists code index = true →
        c.field code index = d.field code index)
    ∧ ∀ c : Conf, c.doubleBinding = true ↔ ∃ a b, 1 ≤ a ∧ a < b ∧ b ≤ 3 ∧ c.field 12 a ≠ 0 ∧ c.field 12 b ≠ 0
      ∧ c.field 10 a = c.field 10 b ∧ 1 ≤ c.field 10 a ∧ c.field 10 a ≤ c.standCount

/-- Each stand field of codes 16 to 25 takes its range in the configuration that an accepted CONFIG SET makes, F_off is kept
below F_on and S_min below S_max, and a CONFIG SET that clamps a field is answered CLAMPED. -/
def Obligations.StandFieldsClamped : Prop :=
  ∀ (tag : Byte) (items : List (Byte × Byte × BitVec 32)) (s : State), s.ready →
    (∀ i ∈ items, fieldExists i.1.toNat i.2.1.toNat = true) →
    let copy := items.foldl (fun c i => c.setField i.1.toNat i.2.1.toNat i.2.2.toInt) s.conf
    copy.structural = s.conf.structural ∨ s.trainIdle = true → copy.clamped.doubleBinding = false →
    ∃ (t : State) (code : Code), exec (.configSet tag items) s = .next (t.replied 0x03 tag code [])
      ∧ ∀ k, 1 ≤ k → k ≤ 7 →
        let c := copy.stands.get k
        let d := t.conf.stands.get k
        let fOff := max 100 (min 39999 c.fOff)
        let sMin := max 0 (min 59999 c.sMin)
        d.fOn = max 200 (min 40000 c.fOn)
          ∧ d.fOff = (if d.fOn ≤ fOff then d.fOn - 1 else fOff)
          ∧ d.tolerance = max 10 (min 2000 c.tolerance)
          ∧ d.followLimit = max 50 (min 20000 c.followLimit) ∧ d.nFollow = max 1 (min 255 c.nFollow)
          ∧ d.runawayLimit = max 50 (min 30000 c.runawayLimit) ∧ d.nRun = max 1 (min 255 c.nRun)
          ∧ d.sMax = max 1 (min 60000 c.sMax)
          ∧ d.sMin = (if d.sMax ≤ sMin then d.sMax - 1 else sMin)
          ∧ d.curveSlot = max 0 (min 7 c.curveSlot)
          ∧ (d ≠ c → code = .clamped)

/-- SYNC SELECT answers OK in every state: MILL in INTERNAL enters QUALIFYING with its fields cleared, MILL otherwise clears a
pending internal; INTERNAL in INTERNAL changes nothing, and otherwise sets pending internal. The reply shows the state and the
pending mark as they stand then. A source above 1 is BAD_INDEX. That a mark is sent as 1 or 0, and a
state by its place in the list, is the model's choice (log 12), and so is that an edge counted earlier in the cycle is forgotten as
QUALIFYING is entered (log 54). -/
def Obligations.SyncSelect : Prop :=
  ∀ (tag source : Byte) (s : State), s.ready →
    let c : Instr := .syncSelect tag source
    (1 < source.toNat → exec c s = .next (s.replied 0x05 tag .badIndex []))
    ∧ (source = 1 → s.tb.state = .internal →
      let t : State := { s with tb := { s.tb with
        state := .qualifying, goodRun := 0, qualCount := 0, lastEdge := none, edgeSeen := false } }
      exec c s = .next (t.replied 0x05 tag .ok [1, if s.tb.pendingInternal then 1 else 0]))
    ∧ (source = 1 → s.tb.state ≠ .internal →
      let t : State := { s with tb := { s.tb with pendingInternal := false } }
      exec c s = .next (t.replied 0x05 tag .ok [s.tb.state.code, 0]))
    ∧ (source = 0 → s.tb.state = .internal →
      exec c s = .next (s.replied 0x05 tag .ok [0, if s.tb.pendingInternal then 1 else 0]))
    ∧ (source = 0 → s.tb.state ≠ .internal →
      let t : State := { s with tb := { s.tb with pendingInternal := true } }
      exec c s = .next (t.replied 0x05 tag .ok [s.tb.state.code, 1]))

/-- STAND ARM: the tests in order, each with its reply. A curve slot that fails its CRC check is counted as a fault and becomes
DAMAGED. A curve that loads is kept even when the zero is not known. Accepted,
the stand goes to POSITIONING with STAND STATE, its three runs 0, the loaded curve, the gap it holds, clamped to the limits in
force, as arming gap, and the speed it holds, clamped to 0 to 25,000, as first speed reference. That the reply sends the new state by its
place in the list is the model's choice (log 12). -/
def Obligations.StandArm : Prop :=
  ∀ (tag stand : Byte) (s : State), s.ready →
    let k := stand.toNat
    let st := s.stand k
    let c : Instr := .standArm tag stand
    let n := (32 + (s.conf.stands.get k).curveSlot).toNat
    let entry := s.store.entry n
    let points := curvePoints entry
    let lost : Prop := st.chans.gap.status = .lost ∨ st.chans.force.status = .lost
    let busy : Prop := ∃ op, s.store.op = some op ∧ op.slot = n
    let usable : Prop := (s.store.slotRec n).state = .valid ∧ (s.store.slotRec n).damage = false
    let shaped : Prop := 2 ≤ (entry 0).toNat ∧ (entry 0).toNat ≤ 16 ∧ risingForces points = true
    (k = 0 ∨ s.conf.n < k → exec c s = .next (s.replied 0x06 tag .badIndex []))
    ∧ (1 ≤ k → k ≤ 7 → k ≤ s.conf.n →
      (st.sc.state ≠ .parked → exec c s = .next (s.replied 0x06 tag .wrongState []))
      ∧ (st.sc.state = .parked → lost → exec c s = .next (s.replied 0x06 tag .wrongState []))
      ∧ (st.sc.state = .parked → ¬lost → st.sc.target = .nothing →
        exec c s = .next (s.replied 0x06 tag .noSchedule []))
      ∧ (st.sc.state = .parked → ¬lost → st.sc.target ≠ .nothing →
        (busy → exec c s = .next (s.replied 0x06 tag .busy []))
        ∧ (¬busy →
          (¬usable → exec c s = .next (s.replied 0x06 tag .curveBad []))
          ∧ (usable → s.store.slotCrc n ≠ entry 255 → s.memoriesCanonical →
            ∃ t : State, exec c s = .next (t.replied 0x06 tag .curveBad []) ∧ t = { s with store := t.store }
              ∧ t.store.cells = s.store.cells ∧ t.store.op = s.store.op ∧ t.store.faults = min 65535 (s.store.faults + 1)
              ∧ (s.images.names n = false → t.store.slotRec n = { s.store.slotRec n with state := .damaged })
              ∧ ∀ m, m ≠ n → t.store.slotRec m = s.store.slotRec m)
          ∧ (usable → s.store.slotCrc n = entry 255 →
            (¬shaped → exec c s = .next (s.replied 0x06 tag .curveBad []))
            ∧ (shaped →
              let loaded : Stand := { st with gcu := { st.gcu with curve := some ⟨points, n - 32⟩ } }
              (st.gcu.zeroKnown = false → exec c s = .next ((s.putStand k loaded).replied 0x06 tag .notValid []))
              ∧ (st.gcu.zeroKnown = true →
                let armed : Stand := { loaded with sc := { st.sc with
                  state := .positioning, posRun := 0, followRun := .zero, runawayRun := .zero
                  armGap := some (max st.sc.sMin (min st.sc.sMax st.chans.gap.value))
                  armSpeed := some (max 0 (min 25000 st.chans.speed.value)) } }
                exec c s
                  = .next (((s.putStand k armed).report .standState [(k : Int), 0, 2, 0, natField st.sc.served]).replied
                      0x06 tag .ok [2])))))))

/-- STAND DISARM: POSITIONING and READY go to PARKED with STAND STATE and reply OK, nothing else of the stand changing but the
first references still to be given, which are dropped; PARKED stays PARKED with OK; any other state is refused with WRONG_STATE,
and a stand outside 1 to N with BAD_INDEX. In a cycle of PARKED both references are RELEASED. That the reply sends the new state by its
place in the list is the model's choice (log 12). -/
def Obligations.StandDisarm : Prop :=
  (∀ (tag stand : Byte) (s : State), s.ready →
    let k := stand.toNat
    let st := s.stand k
    let c : Instr := .standDisarm tag stand
    (k = 0 ∨ s.conf.n < k → exec c s = .next (s.replied 0x07 tag .badIndex []))
    ∧ (1 ≤ k → k ≤ 7 → k ≤ s.conf.n →
      (st.sc.state = .parked → exec c s = .next (s.replied 0x07 tag .ok [0]))
      ∧ (st.sc.state = .positioning ∨ st.sc.state = .ready →
        exec c s = .next (((s.putStand k
            { st with sc := { st.sc with state := .parked, armGap := none, armSpeed := none } }).report .standState
              [(k : Int), st.sc.state.code, 0, 1, natField st.sc.served]).replied 0x07 tag .ok [0]))
      ∧ (st.sc.state ≠ .parked → st.sc.state ≠ .positioning → st.sc.state ≠ .ready →
        exec c s = .next (s.replied 0x07 tag .wrongState []))))
    ∧ ∀ (s : State) (k : Nat), s.tb.deadlineDone = false → 1 ≤ k → k ≤ 7 → k ≤ s.force.n →
      (s.stand k).ctx.state = .parked →
      ∃ t, exec .sampleDeadline s = .next t ∧ (t.stand k).sc.gapRef = none ∧ (t.stand k).scu.speedRef = none

/-- SCHEDULE STAGE: the tests in order, each with its reply; a failed CRC check counts a fault and makes the slot DAMAGED, or marks its
damage as pending while an image names it. Accepted, the staged buffer holds the slot's schedule, clamped, with its slot and REPEAT;
every configured stand's target is worked out again. A stand in POSITIONING that takes the staged schedule starts its run anew; one in
READY stays so with its gap within the tolerance of the new target gap, or when its target was the staged schedule and the new one is an
identical copy, and else goes to POSITIONING with RETARGETED; the others keep their state. The bar copies and the cells do not move. A
slot's schedule is read from its entries as section 11.6 lays them out, each field clamped to the range R162 gives, with CLAMPED when
one lay outside. The slot that the buffer named before, if its damage is pending and no image names it any more, becomes DAMAGED; that its
mark is cleared with it is the model's choice (log 24). -/
def Obligations.ScheduleStage : Prop :=
  (∀ (tag slot : Byte) (rep : Option Byte) (s : State), s.ready → s.memoriesCanonical →
    let n := slot.toNat
    let c : Instr := .scheduleStage tag slot rep
    let r := s.store.slotRec n
    let busy : Prop := ∃ op, s.store.op = some op ∧ op.slot = n
    let x := Sched.ofSlot (s.store.entry n)
    (31 < n → exec c s = .next (s.replied 0x0A tag .badIndex []))
    ∧ (n ≤ 31 → busy → exec c s = .next (s.replied 0x0A tag .busy []))
    ∧ (n ≤ 31 → ¬busy → r.state ≠ .valid ∨ r.damage = true → exec c s = .next (s.replied 0x0A tag .notValid []))
    ∧ (n ≤ 31 → ¬busy → r.state = .valid → r.damage = false →
      (s.store.slotCrc n ≠ s.store.entry n 255 →
        ∃ t : State, exec c s = .next (t.replied 0x0A tag .notValid []) ∧ t = { s with store := t.store }
          ∧ t.store.cells = s.store.cells ∧ t.store.op = s.store.op ∧ t.store.faults = min 65535 (s.store.faults + 1)
          ∧ (s.images.names n = true → t.store.slotRec n = { r with damage := true })
          ∧ (s.images.names n = false → t.store.slotRec n = { r with state := .damaged })
          ∧ ∀ m, m ≠ n → t.store.slotRec m = s.store.slotRec m)
      ∧ (s.store.slotCrc n = s.store.entry n 255 →
        (x.1.count ≠ s.conf.standCount → exec c s = .next (s.replied 0x0A tag .notValid []))
        ∧ (x.1.count = s.conf.standCount →
          ∃ t : State, exec c s = .next (t.replied 0x0A tag (if x.2 then .clamped else .ok) [])
            ∧ t.images = { s.images with staged := some ⟨x.1, n, match rep with | some b => decide (b ≠ 0) | none => false⟩ }
            ∧ t.store.cells = s.store.cells ∧ s.damageSettled t (s.images.staged.map Staged.slot)
            ∧ t.track = s.track ∧ t.conf = s.conf ∧ t.force = s.force ∧ t.tb = s.tb
            ∧ t.trips = s.trips ∧ t.trace = s.trace ∧ t.pending = s.pending
            ∧ ∀ k, 1 ≤ k → k ≤ 7 → k ≤ s.conf.n →
              (t.stand k).sc.target = (match s.track.bars.find? (fun b => decide (b.furthest < k)) with
                | some b => .bar b.id
                | none => .staged)
              ∧ (t.stand k).sc.gapRef = (s.stand k).sc.gapRef ∧ (t.stand k).gcu = (s.stand k).gcu
              ∧ ((s.stand k).sc.state ≠ .positioning → (s.stand k).sc.state ≠ .ready →
                (t.stand k).sc.state = (s.stand k).sc.state)
              ∧ ((t.stand k).sc.target = .staged → (s.stand k).sc.state = .positioning →
                (t.stand k).sc = { (s.stand k).sc with target := .staged, posRun := 0 })
              ∧ ((t.stand k).sc.target = .staged → (s.stand k).sc.state = .ready →
                let st := s.stand k
                let goal := max st.sc.sMin (min st.sc.sMax (st.gcu.zero + (x.1.stands.get k).sBase))
                let stays : Prop := |st.chans.gap.value - goal| ≤ (s.force.stands.get k).tolerance
                  ∨ (st.sc.target = .staged ∧ ∃ y, s.images.staged = some y ∧ y.sched = x.1)
                (stays → (t.stand k).sc = { st.sc with target := .staged })
                ∧ (¬stays → (t.stand k).sc = { st.sc with target := .staged, state := .positioning, posRun := 0 }
                  ∧ t.sent s.tb.cycle .standState [(k : Int), 3, 2, 3, natField st.sc.served]))))))
    ∧ ∀ e : Nat → Entry,
      let x := Sched.ofSlot e
      let u (i : Nat) : Int := ((e i).toNat : Int)
      let copied (k : Nat) : Prop := 1 ≤ k ∧ k ≤ 7 ∧ (k : Int) ≤ u 1
      let fields (y : StandSched) : List (Int × Nat × Int × Int) :=
        [(y.hRef, 0, 500, 30000), (y.sBase, 1, 0, 50000), (y.vSched, 2, 0, 25000), (y.slip, 3, 0, 60000), (y.kpShift, 5, 0, 15),
          (y.kiShift, 7, 0, 15), (y.g, 8, 128, 1024), (y.q, 9, 0, 4), (y.ePos, 10, 0, 4000), (y.eNeg, 11, 0, 4000),
          (y.ePosSt, 12, 0, 4000), (y.eNegSt, 13, 0, 4000), (y.iLim, 14, 0, 8000), (y.hi, 15, 0, 5000), (y.lo, 16, 0, 5000),
          (y.rollSlew, 17, 1, 500), (y.startSlew, 18, 1, 500), (y.mg, 21, 0, 256), (y.nMask, 22, 0, 255),
          (y.threadLimit, 23, 16, 4000)]
      x.1.id = max 1 (min 65535 (u 0)) ∧ x.1.count = u 1 ∧ x.1.pitch = max 200 (min 2000 (u 2))
      ∧ (∀ k, copied k →
        let y := x.1.stands.get k
        let base := 3 + 24 * (k - 1)
        (∀ p ∈ fields y, p.1 = max p.2.2.1 (min p.2.2.2 (u (base + p.2.1))))
          ∧ y.kp = (e (base + 4)).toInt ∧ y.ki = (e (base + 6)).toInt ∧ (y.windup = true ↔ u (base + 19) ≠ 0)
          ∧ y.mode = if u (base + 20) = 0 then .off else if u (base + 20) = 1 then .single else .successive)
      ∧ (x.2 = false ↔ 1 ≤ u 0 ∧ 200 ≤ u 2 ∧ u 2 ≤ 2000 ∧ ∀ k, copied k →
        let base := 3 + 24 * (k - 1)
        u (base + 20) ≤ 2
          ∧ ∀ p ∈ fields (x.1.stands.get k), p.2.2.1 ≤ u (base + p.2.1) ∧ u (base + p.2.1) ≤ p.2.2.2)

/-- SCHEDULE UNSTAGE always answers OK and empties the staged buffer; every configured stand's target is worked out again, and a
stand in POSITIONING or READY whose target was the staged schedule and is now none goes to PARKED with NO TARGET; the others keep
their state. The slot that the buffer named, if its damage is pending and no bar copy names it, becomes DAMAGED; so does the slot of a bar
copy freed as its bar leaves the list. That the mark is cleared with it is the model's choice (log 24). -/
def Obligations.ScheduleUnstage : Prop :=
  (∀ (tag : Byte) (s : State), s.ready →
    ∃ t : State, exec (.scheduleUnstage tag) s = .next (t.replied 0x0B tag .ok [])
      ∧ t.images = { s.images with staged := none } ∧ t.store.cells = s.store.cells ∧ t.store.op = s.store.op
      ∧ (s.memoriesCanonical → s.damageSettled t (s.images.staged.map Staged.slot))
      ∧ t.track = s.track ∧ t.conf = s.conf ∧ t.force = s.force ∧ t.tb = s.tb ∧ t.trips = s.trips ∧ t.trace = s.trace
      ∧ t.pending = s.pending
      ∧ ∀ k, 1 ≤ k → k ≤ 7 → k ≤ s.conf.n →
        (t.stand k).sc.target = (match s.track.bars.find? (fun b => decide (b.furthest < k)) with
          | some b => .bar b.id
          | none => .nothing)
        ∧ (t.stand k).gcu = (s.stand k).gcu
        ∧ ((s.stand k).sc.state ≠ .positioning → (s.stand k).sc.state ≠ .ready →
          (t.stand k).sc.state = (s.stand k).sc.state)
        ∧ ((t.stand k).sc.target = (s.stand k).sc.target → t.stand k = s.stand k)
        ∧ ((s.stand k).sc.state = .positioning ∨ (s.stand k).sc.state = .ready → (s.stand k).sc.target = .staged →
          (t.stand k).sc.target = .nothing →
          (t.stand k).sc.state = .parked ∧ (t.stand k).sc.armGap = none ∧ (t.stand k).sc.armSpeed = none
            ∧ t.sent s.tb.cycle .standState [(k : Int), (s.stand k).sc.state.code, 0, 4, natField (s.stand k).sc.served]))
    ∧ ∀ (s : State) (b : Bar), s.memoriesCanonical →
      let t := s.removeBar b
      s.damageSettled t ((s.images.copy b.copy).map Image.slot)
        ∧ t.images.staged = s.images.staged
        ∧ (b.copy = 0 → t.images.copy0 = none ∧ t.images.copy1 = s.images.copy1)
        ∧ (b.copy ≠ 0 → t.images.copy0 = s.images.copy0 ∧ t.images.copy1 = none)
        ∧ t.track.bars = s.track.bars.filter (fun x => decide (x.id ≠ b.id))
        ∧ t.track.segs = s.track.segs.filter (fun x => decide (x.bar ≠ b.id))
        ∧ t.store.cells = s.store.cells ∧ t.store.op = s.store.op

/-- TUNE SET enters its fields, each clamped, into the pending override, or into a copy of the live one when none is pending, and
answers that override; an unknown field or stand is BAD_INDEX. TUNE CANCEL makes the pending override present and empty, and
MONITOR RESET sets the monitor offset to 0, for one stand, or for 0 for every configured stand. Nothing else changes. The fields are
numbered in the order of the reply, and each is clamped to the range R105 gives. That of two items for one field the later stands is the
model's choice (log 48), and so is that the reply has the 13 fields without a presence flag (log 12). A stand added in the cycle has no
live override to start from. -/
def Obligations.TuneAndMonitor : Prop :=
  (∀ (tag stand : Byte) (s : State), s.ready →
    let k := stand.toNat
    let st := s.stand k
    (∀ items : List (Byte × BitVec 32),
      let c : Instr := .tuneSet tag stand items
      let entered : Tune := items.foldl
        (fun t i => t.setField i.1.toNat (tuneClamp i.1.toNat i.2.toInt))
        (st.gcu.pendingTune.getD (if k ≤ s.lowN then st.gcu.live else .empty))
      (k = 0 ∨ s.conf.n < k ∨ (∃ i ∈ items, 12 < i.1.toNat) → exec c s = .next (s.replied 0x0C tag .badIndex []))
      ∧ (1 ≤ k → k ≤ 7 → k ≤ s.conf.n → (∀ i ∈ items, i.1.toNat ≤ 12) →
        ∃ code : Code, ((∃ i ∈ items, tuneClamp i.1.toNat i.2.toInt ≠ i.2.toInt) → code = .clamped)
          ∧ ((∀ i ∈ items, tuneClamp i.1.toNat i.2.toInt = i.2.toInt) → code = .ok)
          ∧ exec c s = .next ((s.putStand k { st with gcu := { st.gcu with pendingTune := some entered } }).replied
              0x0C tag code (entered.toList.map optField))))
    ∧ (s.conf.n < k →
      exec (.tuneCancel tag stand) s = .next (s.replied 0x0D tag .badIndex [])
        ∧ exec (.monitorReset tag stand) s = .next (s.replied 0x0E tag .badIndex []))
    ∧ (1 ≤ k → k ≤ 7 → k ≤ s.conf.n →
      exec (.tuneCancel tag stand) s
          = .next ((s.putStand k { st with gcu := { st.gcu with pendingTune := some .empty } }).replied 0x0D tag .ok [])
        ∧ exec (.monitorReset tag stand) s
          = .next ((s.putStand k { st with gcu := { st.gcu with monitor := 0 } }).replied 0x0E tag .ok []))
    ∧ (k = 0 →
      (∃ t : State, exec (.tuneCancel tag stand) s = .next (t.replied 0x0D tag .ok []) ∧ t = { s with stands := t.stands }
        ∧ ∀ j, 1 ≤ j → j ≤ 7 → t.stand j = if j ≤ s.conf.n then
            { s.stand j with gcu := { (s.stand j).gcu with pendingTune := some .empty } } else s.stand j)
      ∧ ∃ t : State, exec (.monitorReset tag stand) s = .next (t.replied 0x0E tag .ok []) ∧ t = { s with stands := t.stands }
        ∧ ∀ j, 1 ≤ j → j ≤ 7 → t.stand j = if j ≤ s.conf.n then
            { s.stand j with gcu := { (s.stand j).gcu with monitor := 0 } } else s.stand j))
    ∧ ∀ (t : Tune) (v : Int),
      t.toList = [t.kp, t.kpShift, t.ki, t.kiShift, t.g, t.q, t.ePos, t.eNeg, t.iLim, t.hi, t.lo, t.rollSlew, t.mg]
      ∧ ∀ p ∈ ([(0, -32768, 32767), (1, 0, 15), (2, -32768, 32767), (3, 0, 15), (4, 128, 1024), (5, 0, 4), (6, 0, 4000),
          (7, 0, 4000), (8, 0, 8000), (9, 0, 5000), (10, 0, 5000), (11, 1, 500), (12, 0, 256)] : List (Nat × Int × Int)),
        tuneClamp p.1 v = max p.2.1 (min p.2.2 v) ∧ (t.setField p.1 v).toList = t.toList.set p.1 (some v)

/-! ### Trips -/

/-- When sources are applied. TRIP queues a HOST source, with the stand named or none, for the strobe of the next cycle, whose
count the reply carries, and changes nothing else; a stand outside 1 to N is BAD_INDEX. A strobe applies, in this order, sync lost
when the third holdover in a row ends LOCKED, the emergency stops that are active, in line order, each fresh when it became active
at this strobe, and the HOST sources in the order taken; the work outstanding of the cycle that ends comes before. A stand added in that
cycle meets them unloaded and with no snapshot (log 23). The deadline
applies, each in stand order, measurement lost of every stand with a lost condition, fresh when it was not active before, unready
stand, follow error and runaway. The follow run of a stand outside TRIPPED returns to 0 where the gap is within the follow limit of the
previous gap reference, that reference is RELEASED or the gap channel LOST, and else rises by 1, to N_follow at most; the runaway run
moves in ROLLING alone, to 0 where the raw error is within the runaway limit and else up by 1, to N_run at most. A stand latched by the
deadline's sources has both at 0. The order in which a strobe and a deadline apply their sources is the model's choice (logs 6 and
7), and so are that work outstanding at a strobe is done first (log 5), that a limit lowered to or below a run not yet presented is
reached by the next cycle of error (log 35), and that a stand removed in the cycle makes no test of its own (log 18). -/
def Obligations.SourcesApplied : Prop :=
  (∀ (tag stand : Byte) (s : State), s.ready →
    let k := stand.toNat
    (s.conf.n < k → exec (.trip tag stand) s = .next (s.replied 0x0F tag .badIndex []))
    ∧ (k ≤ s.conf.n →
      let i : Option Nat := if k = 0 then none else some k
      let t : State := { s with trips := { s.trips with host := s.trips.host ++ [i] } }
      exec (.trip tag stand) s = .next (t.replied 0x0F tag .ok [(s.tb.cycle + 1).toInt])))
    ∧ (∀ s : State, s.finished → s.finishCycle = s)
    ∧ (∀ (c : Instr) (s : State) (es : BitVec 4) (time : Nat) (lost : Bool),
      let p := s.tb.period.toNat
      let e := time - s.tb.lastStrobe
      (c = .internalReferenceStrobe es ∧ s.tb.state ≠ .locked ∧ lost = false)
        ∨ (c = .holdoverStrobe es ∧ s.tb.state = .locked ∧ lost = (decide (2 ≤ s.tb.holdover) && !s.tb.pendingInternal))
        ∨ (c = .millSyncEdge time es ∧ s.tb.state = .locked ∧ s.tb.switchEdge = none ∧ 3 * p ≤ 4 * e ∧ 4 * e ≤ 5 * p
          ∧ lost = false) →
      ∃ t u : State, exec c s = .next t
        ∧ (let f := s.finishCycle
          let stops : List (Nat × Kind) :=
            [(0, .estop0), (1, .estop1), (2, .estop2), (3, .estop3)].filter (fun i => (t.estops.get i.1).active)
          let srcs : List (Source × Bool) :=
            (if lost then [(⟨.syncLost, none, none⟩, false)] else [])
              ++ stops.map (fun i => (⟨i.2, some i.1, none⟩, !(s.estops.get i.1).active))
              ++ s.trips.host.map (fun i => (⟨.host, i, none⟩, false))
          let v := u.applySources srcs
          u.conf = s.conf ∧ u.force = s.conf ∧ u.tb = t.tb ∧ u.estops = t.estops ∧ u.track = f.track
            ∧ u.trips = { f.trips with host := [] }
            ∧ (∀ k, 1 ≤ k → k ≤ 7 → k ≤ s.conf.n →
              (u.stand k).trip = (f.stand k).trip ∧ (u.stand k).sc.state = (f.stand k).sc.state
                ∧ (u.stand k).sc.served = (f.stand k).sc.served
                ∧ (k ≤ s.lowN ∧ k ≤ s.force.n → (u.stand k).sc.loaded = (f.stand k).sc.loaded
                  ∧ ∀ kind bar, u.snapOf ⟨kind, some k, bar⟩ = f.snapOf ⟨kind, some k, bar⟩)
                ∧ (s.lowN < k ∨ s.force.n < k → (u.stand k).sc.loaded = false
                  ∧ ∀ kind bar, u.snapOf ⟨kind, some k, bar⟩ = none))
            ∧ t.trips = v.trips ∧ t.track = v.track ∧ t.images = v.images ∧ t.link = v.link
            ∧ ∀ k, 1 ≤ k → k ≤ 7 →
              (t.stand k).trip = (v.stand k).trip ∧ (t.stand k).sc.state = (v.stand k).sc.state
                ∧ (t.stand k).sc.served = (v.stand k).sc.served ∧ (t.stand k).cal = (v.stand k).cal))
    ∧ ∀ s : State, s.tb.deadlineDone = false →
      ∃ (t u : State) (lost unready follow away : List Nat), exec .sampleDeadline s = .next t
        ∧ (let event (kind : Kind) (k : Nat) : Source × Bool := (⟨kind, some k, none⟩, false)
          let live (k : Nat) : Prop := 1 ≤ k ∧ k ≤ 7 ∧ k ≤ s.force.n ∧ k ≤ s.conf.n ∧ k ≤ s.lowN
          t = u.applySources (lost.map (fun k => (⟨.measurementLost, some k, none⟩, !(s.stand k).lostSrc))
              ++ unready.map (event .unreadyStand) ++ follow.map (event .followError) ++ away.map (event .runaway))
          ∧ u.trips = s.trips ∧ u.track.segs = s.track.segs ∧ u.track.bars = s.track.bars ∧ u.conf = s.conf ∧ u.force = s.force
          ∧ (∀ k, 1 ≤ k → k ≤ 7 → (u.stand k).trip = (s.stand k).trip ∧ (u.stand k).sc.served = (s.stand k).sc.served)
          ∧ lost.Pairwise (· < ·) ∧ unready.Pairwise (· < ·) ∧ follow.Pairwise (· < ·) ∧ away.Pairwise (· < ·)
          ∧ (∀ k, k ∈ lost ↔ live k ∧ ∃ i, i < 3 ∧ ((t.stand k).chans.get i).lostCond = true)
          ∧ (∀ k, k ∈ unready ↔ live k ∧ (s.stand k).sc.loadKnown = true ∧ (s.stand k).sc.loaded = false
            ∧ (t.stand k).sc.loaded = true ∧ ((s.stand k).sc.state = .positioning ∨ (s.stand k).sc.state = .threading
              ∨ (s.stand k).sc.state = .rolling ∨ (s.stand k).sc.state = .tailout))
          ∧ (∀ k, k ∈ follow ↔ live k ∧ (s.stand k).ctx.state ≠ .tripped ∧ (s.stand k).sc.state ≠ .tripped
            ∧ (t.stand k).chans.gap.status ≠ .lost ∧ (∃ p, (s.stand k).sc.prevGap = some p
              ∧ (s.force.stands.get k).followLimit < |(t.stand k).chans.gap.value - p|)
            ∧ (s.stand k).sc.followRun.shown = false
            ∧ (s.force.stands.get k).nFollow ≤ ((s.stand k).sc.followRun.count : Int) + 1)
          ∧ (∀ k, k ∈ away ↔ live k ∧ (s.stand k).ctx.state = .rolling ∧ (s.stand k).sc.state ≠ .tripped
            ∧ (∃ e, (t.stand k).gcu.q.eRaw = some e ∧ (s.force.stands.get k).runawayLimit < |e|)
            ∧ (s.stand k).sc.runawayRun.shown = false
            ∧ (s.force.stands.get k).nRun ≤ ((s.stand k).sc.runawayRun.count : Int) + 1)
          ∧ ∀ k, 1 ≤ k → k ≤ 7 →
            let a := s.stand k
            let b := t.stand k
            let f := s.force.stands.get k
            let tested : Prop := live k ∧ a.ctx.state ≠ .tripped ∧ a.sc.state ≠ .tripped
            let rolls : Prop := live k ∧ a.ctx.state = .rolling ∧ a.sc.state ≠ .tripped
            let risen (run : ErrorRun) (limit : Int) : ErrorRun :=
              ⟨min limit.toNat (run.count + 1), run.shown || decide (limit ≤ (run.count : Int) + 1)⟩
            (b.trip.latch ≠ a.trip.latch → b.sc.followRun = .zero ∧ b.sc.runawayRun = .zero)
            ∧ (b.trip.latch = a.trip.latch →
              (tested → a.sc.prevGap = none ∨ b.chans.gap.status = .lost → b.sc.followRun = .zero)
              ∧ (∀ p, tested → a.sc.prevGap = some p → b.chans.gap.status ≠ .lost →
                (|b.chans.gap.value - p| ≤ f.followLimit → b.sc.followRun = .zero)
                ∧ (f.followLimit < |b.chans.gap.value - p| → b.sc.followRun = risen a.sc.followRun f.nFollow))
              ∧ (¬tested → b.sc.followRun = a.sc.followRun)
              ∧ (∀ e, rolls → b.gcu.q.eRaw = some e →
                (|e| ≤ f.runawayLimit → b.sc.runawayRun = .zero)
                ∧ (f.runawayLimit < |e| → b.sc.runawayRun = risen a.sc.runawayRun f.nRun))
              ∧ (¬rolls ∨ b.gcu.q.eRaw = none → b.sc.runawayRun = a.sc.runawayRun)))

/-- The application of a source gives stand k an action by its relation to the source: own action to the stand named, same-bar action to
another stand serving the source's bar and, when no stand is named, to every stand serving a bar, other action to the rest; BAR
ABANDONED gives its own and same-bar action or HOLD, whichever is stronger; RESET gives RELEASE with all lines, any other kind its row
in force. NONE changes nothing of the stand's trip record, WARN only joins the source to a latched stand's set; a latching action
latches a clear stand with this source, action and withdraw set alone and moves it to TRIPPED with its runs at 0 and its integrator
zeroed and, but for RESET, with STAND STATE, ending a calibration with TRIPPED and CAL DONE; on a latched stand the source joins the
set, the withdraw set joins the union, and the stronger action is in force, and where each latch is set exactly on the TRIPPED stands,
it stays as it is. That a prior result of none is sent as the absent marker is the model's choice (log 12). -/
def Obligations.TripApplied : Prop :=
  (∀ i : Nat, i ≤ 4 → (Action.ofCode i).rank = i)
    ∧ ∀ (s : State) (src : Source) (fresh : Bool) (k : Nat), 1 ≤ k → k ≤ 7 → k ≤ s.conf.n →
      let a := s.actionFor src k
      let old := (s.stand k).trip
      let cal := (s.stand k).cal
      let v := (s.applySource src fresh).1
      let u := v.stand k
      let row := s.rowOf src.kind
      let id : SourceId := ⟨src.kind, src.index⟩
      let lines : Lines := BitVec.ofInt 4 row.withdraw
      let joined : List SourceId := if id ∈ old.sources then old.sources else old.sources ++ [id]
      let names (j : Nat) : Prop := src.kind.line = none ∧ src.index = some j
      let onBar (b : Nat) : Prop := src.bar = some b
        ∨ (src.bar = none ∧ ∃ j, names j ∧ 1 ≤ j ∧ j ≤ s.conf.n ∧ (s.stand j).sc.served = some b)
      let same : Prop := ∃ b, onBar b ∧ (s.stand k).sc.served = some b
      let least (code : Int) : Prop := (src.kind ≠ .barAbandoned → a = .ofCode code)
        ∧ (src.kind = .barAbandoned → a.rank = max 2 (Action.ofCode code).rank)
      (src.kind = .reset → row = ⟨4, 4, 4, 15⟩)
      ∧ (src.kind ≠ .reset → row = s.force.matrix.row src.kind.code)
      ∧ (names k → least row.own)
      ∧ (¬names k → same → least row.same)
      ∧ (¬names k → ¬same → (∀ j, ¬names j) → (s.stand k).sc.served ≠ none → a = .ofCode row.same)
      ∧ (¬names k → ¬same → (∃ j, names j) ∨ (s.stand k).sc.served = none → a = .ofCode row.other)
      ∧ (a = .nothing → u.trip = old)
      ∧ (a = .warn → old.latch = false → u.trip = old)
      ∧ (a = .warn → old.latch = true → u.trip = { old with sources := joined })
      ∧ (a = .hold ∨ a = .opening ∨ a = .release →
        (old.latch = false → u.trip = ⟨true, a, [id], lines⟩ ∧ u.sc.state = .tripped ∧ u.gcu.iacc = 0
          ∧ u.sc.posRun = 0 ∧ u.sc.followRun = .zero ∧ u.sc.runawayRun = .zero ∧ u.sc.threadCount = 0
          ∧ u.sc.firstSign = .nothing ∧ u.sc.armGap = none ∧ u.sc.armSpeed = none
          ∧ (src.kind ≠ .reset → v.sent s.tb.cycle .standState
            [(k : Int), (s.stand k).sc.state.code, 7, 11, natField (s.stand k).sc.served])
          ∧ (cal.phase = .nothing → u.cal = cal)
          ∧ (src.kind ≠ .reset → cal.phase ≠ .nothing →
            let prior : Option CalResult := if cal.result = .ok then none else some cal.result
            u.cal = { cal with phase := .nothing, result := .tripped, prior := prior }
            ∧ v.sent s.tb.cycle .calDone
              [(k : Int), CalResult.code .tripped, optField (prior.map CalResult.code), cal.oldZero, optField cal.candidate,
                optField cal.sAvg, optField cal.fAvg, optField cal.kissRef, s.tb.cycle.toInt]))
        ∧ (old.latch = true →
          u.trip = ⟨true, if old.action.rank < a.rank then a else old.action, joined, old.union ||| lines⟩
          ∧ u.cal = cal ∧ (s.latchesMatch → u.sc.state = (s.stand k).sc.state)))

/-- What an application of a source leaves beside the latches. It makes a record when it gives some stand an action other than
NONE and the source is of event type, or became active in this cycle, or latched or escalated a stand: the record, with the next
number, the stands given WARN or stronger, the action in force after, the snapshot of the stand named, and the stands latched
waiting for their clear, joins the list of 16, its TRIP report is sent and it gives its triggers; else nothing of this happens. It
abandons each bar that a loaded stand given OPEN or RELEASE serves, the source's bar where the stand named serves none, and, for HOST,
the bars missed at the stand named: those bars leave the list with their segments, tripped stands serving them serve none, and each
stand left rolling one of them presents bar abandoned. What an application brings about is applied before the sources after it. The
model's choices are this order, and the record before the abandonments (log 31), and that the snapshot is absent where the stand has
formed no reference since the reset (log 23). -/
def Obligations.TripRecords : Prop :=
  (∀ (s : State) (src : Source) (fresh : Bool),
    let r := s.applySource src fresh
    let a (k : Nat) : Action := s.actionFor src k
    let stands := [1, 2, 3, 4, 5, 6, 7].filter (fun k => decide (k ≤ s.conf.n))
    let named : Option Nat := if src.kind.line.isSome then none else src.index
    let bar : Option Nat :=
      src.bar.or (named.bind (fun j => if 1 ≤ j ∧ j ≤ s.conf.n then (s.stand j).sc.served else none))
    let condition : Prop := src.kind.line ≠ none ∨ src.kind = .measurementLost
    let latching := stands.filter (fun k => decide (2 ≤ (a k).rank))
    let moved : Prop := ∃ k ∈ latching, (s.stand k).trip.latch = false ∨ (s.stand k).trip.action.rank < (a k).rank
    let made : Prop := (∃ k ∈ stands, a k ≠ .nothing) ∧ (¬condition ∨ fresh = true ∨ moved)
    let strong (k : Nat) : Prop := k ∈ stands ∧ 3 ≤ (a k).rank
    let listed (id : Nat) : Prop := ∃ b ∈ s.track.bars, b.id = id
    let serves (k id : Nat) : Prop := (s.stand k).sc.served = some id ∧ listed id
    let called (id : Nat) : Prop :=
      (∃ k, strong k ∧ (s.stand k).sc.loaded = true
        ∧ (serves k id ∨ ((∀ j, ¬serves k j) ∧ named = some k ∧ bar = some id)))
      ∨ (src.kind = .host ∧ ∃ k b, named = some k ∧ strong k ∧ b ∈ s.track.bars ∧ b.missed = some k ∧ b.id = id)
    (¬made → r.1.trips = s.trips ∧ r.1.trace = s.trace)
    ∧ (made →
      let record : TripRecord := {
        number := s.trips.next, cycle := s.tb.cycle, kind := src.kind, index := src.index, bar := bar
        affected := (stands.filter (fun k => decide (a k ≠ .nothing))).map (fun k =>
          ⟨k, a k, (r.1.stand k).trip.action⟩)
        snap := named.bind (fun k =>
          (s.stand k).sc.formed.map (fun c =>
            ⟨c, (s.stand k).chans.gap.value, (s.stand k).chans.force.value, (s.stand k).gcu.q.eRaw, (s.stand k).sc.gapRef⟩))
        cleared := latching.isEmpty, waiting := latching, superseded := false }
      r.1.trips = { s.trips with
        records := s.trips.records.drop (s.trips.records.length - 15) ++ [record]
        next := if s.trips.next < 65535 then s.trips.next + 1 else 1 }
      ∧ r.1.sent s.tb.cycle .trip (record.fields ++ r.1.lineFields)
      ∧ r.1.trace = { s.trace with
          triggers := s.trace.triggers ++ ⟨.tripAny, none, s.tb.cycle⟩
            :: latching.map (fun k => ⟨.tripAt k, none, s.tb.cycle⟩) })
    ∧ (s.latchesMatch →
      (∀ b, b ∈ r.1.track.bars ↔ b ∈ s.track.bars ∧ ¬called b.id)
      ∧ (∀ x, x ∈ r.1.track.segs ↔ x ∈ s.track.segs ∧ ¬(called x.bar ∧ listed x.bar))
      ∧ (∀ y : Source, y ∈ r.2 ↔ ∃ k id, y = ⟨.barAbandoned, some k, some id⟩ ∧ k ∈ stands ∧ called id ∧ listed id
        ∧ (s.stand k).sc.served = some id ∧ ((r.1.stand k).sc.state = .threading ∨ (r.1.stand k).sc.state = .rolling
          ∨ (r.1.stand k).sc.state = .tailout))
      ∧ ∀ k ∈ stands, ∀ id, (r.1.stand k).sc.state = .tripped → (r.1.stand k).sc.served = some id →
        ∃ b ∈ r.1.track.bars, b.id = id))
    ∧ ∀ s : State, s.applySources [] = s ∧ ∀ (src : Source) (fresh : Bool) (rest : List (Source × Bool)),
      s.applySources ((src, fresh) :: rest)
        = (s.applySource src fresh).1.applySources ((s.applySource src fresh).2.map (fun x => (x, false)) ++ rest)

/-- TRIP CLEAR of a set of stands, or for 0 of every configured stand that is latched: BAD_INDEX for a stand beyond N; else each
stand has its outcome, WRONG_STATE with its latch clear, SOURCE_ACTIVE while a condition source of its set is active, else it is
cleared. The reply code is OK, or the outcome of the first stand not cleared, and the reply carries the outcomes and the line levels.
A stand cleared has its trip record emptied and is PARKED serving no bar, with its integrator zeroed and STAND STATE sent; the other
stands do not move; TRIP CLEARED names the stands cleared and the lines, and the records that wait for them are marked. With none
cleared nothing changes. That the outcomes go as pairs of stand and code, 0 for cleared, is the model's choice (log 12), and so is that
a stand with RESET alone in its set is cleared before the deadline of cycle 0, and in any cycle one that MEASUREMENT LOST gives NONE,
with a channel not recovered (log 49). -/
def Obligations.TripClear : Prop :=
  ∀ (tag stands : Byte) (s : State), s.ready → s.conf.n ≤ 7 →
    let c : Instr := .tripClear tag stands
    let active (id : SourceId) : Prop := match id.kind.line with
      | some i => (s.estops.get i).active = true
      | none => id.kind = .measurementLost ∧ ∃ j, id.index = some j ∧ (s.stand j).lostSrc = true
    let ks : List Nat :=
      if stands = 0 then [1, 2, 3, 4, 5, 6, 7].filter (fun k => decide (k ≤ s.conf.n) && (s.stand k).trip.latch)
      else standsOf stands
    let clears (k : Nat) : Prop := (s.stand k).trip.latch = true ∧ ∀ id ∈ (s.stand k).trip.sources, ¬active id
    ((∃ k ∈ ks, s.conf.n < k) → exec c s = .next (s.replied 0x10 tag .badIndex []))
    ∧ ((∀ k ∈ ks, k ≤ s.conf.n) →
      ∃ (t : State) (code : Code) (out : Nat → Code) (gone : List Nat),
        exec c s = .next (t.replied 0x10 tag code
          ((ks.length : Int) :: ks.flatMap (fun k : Nat => [(k : Int), ((out k).value : Int)]) ++ t.lineFields))
        ∧ (∀ k ∈ ks,
          ((s.stand k).trip.latch = false → out k = .wrongState)
          ∧ ((s.stand k).trip.latch = true → (∃ id ∈ (s.stand k).trip.sources, active id) → out k = .sourceActive)
          ∧ (clears k → out k = .ok))
        ∧ ((∀ k ∈ ks, clears k) → code = .ok)
        ∧ (∀ pre k post, ks = pre ++ k :: post → (∀ j ∈ pre, clears j) → ¬clears k → code = out k)
        ∧ (∀ k, k ∈ gone ↔ k ∈ ks ∧ clears k)
        ∧ ((∀ k ∈ ks, ¬clears k) → t = s)
        ∧ (∀ k, 1 ≤ k → k ≤ 7 → k ∉ gone → t.stand k = s.stand k)
        ∧ (∀ k ∈ gone,
          t.stand k = { s.stand k with
            trip := .clear
            sc := { (s.stand k).sc with state := .parked, served := none, armGap := none, armSpeed := none }
            gcu := { (s.stand k).gcu with iacc := 0 } }
          ∧ t.sent s.tb.cycle .standState
            [(k : Int), (s.stand k).sc.state.code, 0, 12, natField (s.stand k).sc.served])
        ∧ ((∃ k ∈ ks, clears k) →
          t = { s with stands := t.stands, trips := t.trips, link := t.link }
          ∧ t.trips = { s.trips with records := s.trips.records.map (fun r =>
              if r.superseded then r
              else
                let left := r.waiting.filter (fun k => decide (k ∉ gone))
                { r with waiting := left, cleared := r.cleared || left.isEmpty }) }
          ∧ t.sent s.tb.cycle .tripCleared
            ((∑ k ∈ Finset.Icc 1 7, if k ∈ gone then (2 : Int) ^ (k - 1) else 0) :: t.lineFields)))

/-- A permissive line is low exactly while some latched stand's union holds it. The application of a source withdraws its row's
lines through the stands it gives a latching action, and gives no line; an accepted TRIP CLEAR of a stand gives exactly the
lines that no other latched stand holds. -/
def Obligations.PermissiveLines : Prop :=
  let holds (s : State) (k i : Nat) : Prop := (s.stand k).trip.latch = true ∧ (s.stand k).trip.union.getLsbD i = true
  (∀ (s : State) (i : Nat), s.lineLevel i = false ↔ ∃ k, 1 ≤ k ∧ k ≤ 7 ∧ holds s k i)
    ∧ (∀ (s : State) (src : Source) (fresh : Bool) (i : Nat),
      (s.applySource src fresh).1.lineLevel i = false
        ↔ s.lineLevel i = false ∨ ((s.rowOf src.kind).lines.getLsbD i = true
          ∧ ∃ k, 1 ≤ k ∧ k ≤ 7 ∧ k ≤ s.conf.n ∧ (s.actionFor src k).latching = true))
    ∧ ∀ (tag stands : Byte) (s : State) (k : Nat), s.ready → standsOf stands = [k] → k ≤ 7 → k ≤ s.conf.n →
      (s.stand k).trip.latch = true → (∀ id ∈ (s.stand k).trip.sources, s.sourceActive id = false) →
      ∃ t, exec (.tripClear tag stands) s = .next t
        ∧ ∀ i, t.lineLevel i = true ↔ ∀ j, 1 ≤ j → j ≤ 7 → j ≠ k → ¬holds s j i

/-! ### Calibration, trace and subscription -/

/-- ZERO CAL: the tests in order, each with its reply; accepted, kiss force and close rate are clamped, the calibration record is
set afresh in CLOSING with the start gap, and the stand goes to CALIBRATING. ZERO CAL ABORT: BAD_INDEX outside 1 to N, WRONG_STATE
outside CALIBRATING; else, by the phase, CLOSING and HOLDING open with ABORTED, OPENING with result OK takes ABORTED, and OPENING
after a failure keeps its result. -/
def Obligations.ZeroCalRequests : Prop :=
  ∀ (tag stand : Byte) (s : State), s.ready →
    let k := stand.toNat
    let st := s.stand k
    (∀ kiss rate : BitVec 32,
      let c : Instr := .zeroCal tag stand kiss rate
      let f := max 500 (min 20000 kiss.toInt)
      let r := max 1 (min 50 rate.toInt)
      let start := max st.sc.sMin (min st.sc.sMax st.chans.gap.value)
      let sound : Prop := st.sc.state = .parked ∧ st.sc.loaded = false ∧ st.chans.gap.status = .ok
        ∧ st.chans.force.status = .ok
      (k = 0 ∨ s.conf.n < k → exec c s = .next (s.replied 0x12 tag .badIndex []))
      ∧ (1 ≤ k → k ≤ 7 → k ≤ s.conf.n →
        (¬sound → exec c s = .next (s.replied 0x12 tag .wrongState []))
        ∧ (sound → st.gcu.curve = none → exec c s = .next (s.replied 0x12 tag .curveBad []))
        ∧ (sound → st.gcu.curve ≠ none →
          let begun : Stand := { st with
            sc := { st.sc with state := .calibrating, armGap := some start }
            cal := { phase := .closing, kissForce := f, closeRate := r, startGap := start, kissRef := none, holdCount := 0
                     sumS := 0, sumF := 0, sAvg := none, fAvg := none, oldZero := st.gcu.zero, candidate := none
                     result := .ok, prior := none } }
          exec c s
            = .next (((s.putStand k begun).report .standState [(k : Int), 0, 1, 13, natField st.sc.served]).replied
                0x12 tag (if f = kiss.toInt ∧ r = rate.toInt then .ok else .clamped) []))))
    ∧ (let c : Instr := .zeroCalAbort tag stand
      let with_ (x : Cal) : State := s.putStand k { st with cal := x }
      (k = 0 ∨ s.conf.n < k → exec c s = .next (s.replied 0x13 tag .badIndex []))
      ∧ (1 ≤ k → k ≤ 7 → k ≤ s.conf.n →
        (st.sc.state ≠ .calibrating → exec c s = .next (s.replied 0x13 tag .wrongState []))
        ∧ (st.sc.state = .calibrating →
          (st.cal.phase = .closing ∨ st.cal.phase = .holding →
            exec c s = .next ((with_ { st.cal with phase := .opening, result := .aborted }).replied 0x13 tag .ok []))
          ∧ (st.cal.phase = .opening → st.cal.result = .ok →
            exec c s = .next ((with_ { st.cal with result := .aborted }).replied 0x13 tag .ok []))
          ∧ (st.cal.phase = .opening → st.cal.result ≠ .ok → exec c s = .next (s.replied 0x13 tag .ok [])))))

/-- TRACE SETUP: BAD_INDEX for a channel above 7, BUSY while it is ARMED or CAPTURING, BAD_INDEX for an unknown quantity, trigger or
mode, an index or trigger stand out of range or a region that does not fit, OVERLAP for a region that shares a place with another
channel's; else the channel's record is replaced, IDLE and empty, with decimation, block size and post count clamped, and the
reply carries it. That block size and post count are 1 without a region, that the mode is tested before OVERLAP, and that
the phase cycle is kept, are the model's choices (log 26); that a new record samples its stand again is read from R170 (log 47). -/
def Obligations.TraceSetup : Prop :=
  ∀ (tag : Byte) (p : TraceParams) (s : State), s.ready →
    let c : Instr := .traceSetup tag p
    let ch := p.channel.toNat
    let old := s.trace.chans.get ch
    let base := p.base.toNat
    let len := p.length.toNat
    let fits : Prop := len = 0 ∨ (16 ≤ len ∧ len ≤ 16384 ∧ base + len ≤ 16384)
    let meets : Prop := ∃ j, j < 8 ∧ j ≠ ch ∧ 0 < len ∧ 0 < (s.trace.chans.get j).length
      ∧ base < (s.trace.chans.get j).base + (s.trace.chans.get j).length ∧ (s.trace.chans.get j).base < base + len
    let refused (code : Code) : Prop := exec c s = .next (s.replied 0x1A tag code [])
    (7 < ch → refused .badIndex)
    ∧ (ch ≤ 7 →
      (old.state = .armed ∨ old.state = .capturing → refused .busy)
      ∧ (old.state = .idle ∨ old.state = .done →
        (TraceQuantity.ofCode p.quantity.toNat = none ∨ Trigger.ofCode p.trigger.toNat p.triggerStand.toNat = none
            ∨ TraceMode.ofCode p.mode.toNat = none → refused .badIndex)
        ∧ ∀ q tr m, TraceQuantity.ofCode p.quantity.toNat = some q →
          Trigger.ofCode p.trigger.toNat p.triggerStand.toNat = some tr → TraceMode.ofCode p.mode.toNat = some m →
          let wanted : Prop := match q with
            | .cycleLength => True
            | .gauge => 1 ≤ p.index.toNat ∧ p.index.toNat ≤ 3
            | _ => 1 ≤ p.index.toNat ∧ p.index.toNat ≤ s.conf.n
          let named : Prop := ∀ k, tr.stand = some k → 1 ≤ k ∧ k ≤ s.conf.n
          (¬wanted ∨ ¬named ∨ ¬fits → refused .badIndex)
          ∧ (wanted → named → fits → meets → refused .overlap)
          ∧ (wanted → named → fits → ¬meets →
            let block := max 1 (min len p.block.toNat)
            let post := max 1 (min len p.post.toNat)
            let d := min 7 p.decimation.toNat
            let x : TraceChan :=
              { quantity := some q, index := if q = .cycleLength then none else some p.index.toNat, base := base
                length := len, mode := m, block := block, post := post, decimation := d, trigger := tr, state := .idle
                armCycle := none, flag := false, firstTrigger := none, lastTrigger := none, blocks := 0
                wpos := if len = 0 then none else some base, fill := 0, postTaken := 0, phase := old.phase
                presence := .here }
            let code : Code :=
              if block = p.block.toNat ∧ post = p.post.toNat ∧ d = p.decimation.toNat then .ok else .clamped
            let t : State := { s with trace := { s.trace with chans := s.trace.chans.set ch x } }
            exec c s = .next (t.replied 0x1A tag code x.fields))))

/-- TRACE ARM discards a channel's samples and arms it from the next cycle, capturing at once with IMMEDIATE; TRACE TRIGGER labels a
REQUEST trigger with the next cycle for one channel, or for 255 for all; TRACE STOP ends an armed channel as DONE with its report;
TRACE READ gives a channel's record, field by field in the order of section 10.1, and its samples. Each refuses a channel above 7 with
BAD_INDEX and the states its rule excludes. That STOPPED is sent as 0, a state by its place in the list, and region and trigger as two
fields each are the model's choices (log 12). -/
def Obligations.TraceRequests : Prop :=
  ([TraceQuantity.gap, .force, .speed, .hEst, .eRaw, .integral, .correction, .clampStatus, .sRef, .vRef, .trim, .gauge,
      .cycleLength].map TraceQuantity.code = [0, 1, 2, 3, 4, 5, 6, 7, 8, 9, 10, 11, 12]
    ∧ [TraceMode.single, .ring, .block].map TraceMode.code = [0, 1, 2]
    ∧ [TraceState.idle, .armed, .capturing, .done].map TraceState.code = [0, 1, 2, 3])
  ∧ ∀ (tag channel : Byte) (s : State), s.ready →
    let ch := channel.toNat
    let x := s.trace.chans.get ch
    let with_ (y : TraceChan) : State := { s with trace := { s.trace with chans := s.trace.chans.set ch y } }
    let none_ : Int := -2147483648
    let cycle (c : Option Cycle) : Int := (c.map BitVec.toInt).getD none_
    let trigger : List Int := match x.trigger with
      | .immediate => [0, none_]
      | .headAt k => [1, (k : Int)]
      | .tailAt k => [2, (k : Int)]
      | .tripAny => [3, none_]
      | .tripAt k => [4, (k : Int)]
      | .request => [5, none_]
    let record : List Int :=
      [(x.quantity.map TraceQuantity.code).getD none_, (x.index.map Int.ofNat).getD none_]
        ++ (if x.length = 0 then [none_, none_] else [(x.base : Int), (x.length : Int)])
        ++ [x.mode.code, (x.block : Int), (x.post : Int), (x.decimation : Int)] ++ trigger
        ++ [x.state.code, cycle x.armCycle, if x.flag then 1 else 0, cycle x.firstTrigger, cycle x.lastTrigger, (x.blocks : Int),
          (x.wpos.map Int.ofNat).getD none_, (x.fill : Int), (x.postTaken : Int), x.phase.toInt]
    (7 < ch →
      exec (.traceArm tag channel) s = .next (s.replied 0x1B tag .badIndex [])
      ∧ (ch ≠ 255 → exec (.traceTrigger tag channel) s = .next (s.replied 0x1C tag .badIndex []))
      ∧ exec (.traceStop tag channel) s = .next (s.replied 0x1D tag .badIndex [])
      ∧ ∀ offset count, exec (.traceRead tag channel offset count) s = .next (s.replied 0x1E tag .badIndex []))
    ∧ (ch ≤ 7 →
      (x.state = .armed ∨ x.state = .capturing → exec (.traceArm tag channel) s = .next (s.replied 0x1B tag .busy []))
      ∧ (x.state = .idle ∨ x.state = .done → x.length = 0 →
        exec (.traceArm tag channel) s = .next (s.replied 0x1B tag .wrongState []))
      ∧ (x.state = .idle ∨ x.state = .done → x.length ≠ 0 →
        let armed : TraceChan := { x with
          fill := 0, postTaken := 0, blocks := 0, flag := false, firstTrigger := none, lastTrigger := none
          wpos := some x.base, armCycle := some (s.tb.cycle + 1), phase := s.tb.cycle + 1, state := .armed }
        let begun : TraceChan := { armed with
          state := .capturing, flag := true, firstTrigger := some (s.tb.cycle + 1)
          lastTrigger := some (s.tb.cycle + 1), blocks := if x.mode = .block then 1 else 0 }
        exec (.traceArm tag channel) s
          = .next ((with_ (if x.trigger = .immediate then begun else armed)).replied 0x1B tag .ok
              [(s.tb.cycle + 1).toInt]))
      ∧ (let t : State := { s with trace := { s.trace with
          triggers := s.trace.triggers ++ [⟨.request, some ch, s.tb.cycle + 1⟩] } }
        exec (.traceTrigger tag channel) s
          = .next (t.replied 0x1C tag .ok [(s.tb.cycle + 1).toInt, 1, x.state.code]))
      ∧ (x.state = .idle → exec (.traceStop tag channel) s = .next (s.replied 0x1D tag .wrongState []))
      ∧ (x.state = .done → exec (.traceStop tag channel) s = .next (s.replied 0x1D tag .ok []))
      ∧ (x.state = .armed ∨ x.state = .capturing →
        exec (.traceStop tag channel) s
          = .next (((with_ { x with state := .done }).report .traceDone
              [(ch : Int), 0, (x.fill : Int), boolField x.flag, optCycleField x.firstTrigger, optCycleField x.lastTrigger,
                (x.blocks : Int)]).replied 0x1D tag .ok []))
      ∧ ∀ (offset : BitVec 16) (count : Byte),
        let o := offset.toNat
        let n := min (if count.toNat = 0 ∨ 60 < count.toNat then 60 else count.toNat) (x.fill - o)
        (x.state = .armed ∨ x.state = .capturing →
          exec (.traceRead tag channel offset count) s = .next (s.replied 0x1E tag .busy []))
        ∧ (x.state = .idle ∨ x.state = .done → x.fill < o →
          exec (.traceRead tag channel offset count) s = .next (s.replied 0x1E tag .badIndex []))
        ∧ (x.state = .idle ∨ x.state = .done → o ≤ x.fill →
          exec (.traceRead tag channel offset count) s
            = .next (s.replied 0x1E tag (if count.toNat ≠ 0 ∧ n = count.toNat then .ok else .clamped)
                (record ++ (n : Int) :: (List.range n).map (fun i => s.trace.sampleAt x (o + i))))))
    ∧ (ch = 255 →
      let t : State := { s with trace := { s.trace with
        triggers := s.trace.triggers ++ (List.range 8).map (fun c => ⟨.request, some c, s.tb.cycle + 1⟩) } }
      exec (.traceTrigger tag channel) s
        = .next (t.replied 0x1C tag .ok
            ((s.tb.cycle + 1).toInt :: 8 :: (List.range 8).map (fun c => (s.trace.chans.get c).state.code))))

/-- The settlement of the cycle that ends, at its strobe. The triggers that count are those received before the strobe; those that the
work outstanding at it brings are triggers of the next cycle. A channel ARMED or CAPTURING, from its arm cycle on, takes a trigger of
the cycle first, which begins its capture with the phase at this cycle, and then, in a cycle of its decimation, writes the sample at
its write position, which goes on by one place and from the last of the region to its base: RING always, SINGLE and BLOCK while
CAPTURING. SINGLE ends with a full region, RING with the post-trigger count, BLOCK is ARMED again after each block and ends when no
whole block is left; an end sends TRACE DONE. Every other place keeps its sample. A sample is the channel's quantity of the cycle,
absent where there is none and in every cycle after one in which its stand left the configuration. Samples are read oldest first: from
the base, or in a full RING from the write position round. The model's choices are that the outstanding work's triggers come after the
strobe (log 5), that "from its arm cycle on" leaves out the one cycle before it (log 20), that IMMEDIATE takes every cycle of an ARMED
channel as its trigger (log 21), that a channel whose stand has left samples it again only once it is set up anew (log 47), and that
COMPLETE is sent as 1 (log 12). -/
def Obligations.TraceSettlement : Prop :=
  (∀ s : State, ∃ late : List Labelled, s.finishCycle.trace = { s.trace with triggers := s.trace.triggers ++ late }
      ∧ ∀ x ∈ late, x.cycle = s.tb.cycle + 1)
    ∧ (∀ (es : BitVec 4) (s : State), s.tb.state ≠ .locked →
      ∃ t more, exec (.internalReferenceStrobe es) s = .next t
        ∧ t.trace.mem = s.finishCycle.settleTrace.trace.mem ∧ t.trace.chans = s.finishCycle.settleTrace.trace.chans
        ∧ t.trace.triggers = s.finishCycle.trace.triggers.filter (fun x => decide (x.cycle ≠ s.tb.cycle)) ++ more
        ∧ ∀ x ∈ more, x.cycle = s.tb.cycle + 1)
    ∧ (∀ s : State,
      let n := s.tb.cycle
      let t := s.settleTrace
      let chan (ch : Nat) : TraceChan := s.trace.chans.get ch
      let settling (ch : Nat) : Prop := ((chan ch).state = .armed ∨ (chan ch).state = .capturing)
        ∧ ∀ a, (chan ch).armCycle = some a → n ≠ a - 1
      let begins (ch : Nat) : Prop := (chan ch).state = .armed ∧ ((chan ch).trigger = .immediate
        ∨ ∃ x ∈ s.trace.triggers, x.cycle = n ∧ (x.channel = some ch ∨ (x.channel = none ∧ x.trigger = (chan ch).trigger)))
      let due (x : TraceChan) : Prop := (n - x.phase).toNat % 2 ^ x.decimation = 0 ∧ (x.mode = .ring ∨ x.state = .capturing)
      let wrote (x : TraceChan) : TraceChan := { x with
        wpos := x.wpos.map (fun p => if p + 1 < x.base + x.length then p + 1 else x.base)
        fill := min x.length (x.fill + 1) }
      let after (x : TraceChan) : TraceChan :=
        let w := wrote x
        match x.mode with
        | .single => if x.length ≤ w.fill then { w with state := .done } else w
        | .ring =>
          if x.state = .capturing then
            { w with postTaken := x.postTaken + 1, state := if x.post ≤ x.postTaken + 1 then .done else .capturing }
          else w
        | .block =>
          if x.blocks * x.block ≤ w.fill then
            { w with state := if x.length < w.fill + x.block then .done else .armed }
          else w
      let writes (ch p : Nat) : Prop := ch < 8 ∧ settling ch ∧ (chan ch).wpos = some p ∧ (begins ch ∨ due (chan ch))
      (∀ ch, ch < 8 →
        let c := chan ch
        let d := t.trace.chans.get ch
        let begun : TraceChan := { c with
          flag := true, lastTrigger := some n, phase := n, state := .capturing
          firstTrigger := if c.mode = .block then c.firstTrigger.or (some n) else some n
          blocks := if c.mode = .block then min 16384 (c.blocks + 1) else c.blocks }
        let passed (x : TraceChan) : TraceChan := { x with
          presence := if c.presence = .here then .here else .gone }
        (¬settling ch → d = passed c)
        ∧ (settling ch → begins ch → d = passed (after begun))
        ∧ (settling ch → ¬begins ch → (due c → d = passed (after c)) ∧ (¬due c → d = passed c))
        ∧ (settling ch → d.state = .done →
          t.sent n .traceDone [(ch : Int), 1, (d.fill : Int), boolField d.flag, optCycleField d.firstTrigger,
            optCycleField d.lastTrigger, (d.blocks : Int)]))
      ∧ (s.memoriesCanonical →
        (∀ p, (∀ ch, ¬writes ch p) → Memory.read 0 t.trace.mem p = Memory.read 0 s.trace.mem p)
        ∧ ∀ ch p, writes ch p → (∀ j, writes j p → j = ch) → Memory.read 0 t.trace.mem p = s.traceSample (chan ch)))
    ∧ (∀ (s : State) (c : TraceChan) (k : Nat),
      let st := s.stand k
      (c.quantity = some .cycleLength → s.traceSample c = s.tb.lastLen)
      ∧ (c.quantity = some .gauge → c.index = some k → s.traceSample c = (s.gauges.get k).value)
      ∧ ∀ p ∈ ([(.gap, st.chans.gap.value), (.force, st.chans.force.value), (.speed, st.chans.speed.value),
          (.hEst, optField st.gcu.q.hEst), (.eRaw, optField st.gcu.q.eRaw), (.integral, optField st.gcu.q.i),
          (.correction, optField st.gcu.q.c), (.clampStatus, st.gcu.clamp.code), (.sRef, refField st.sc.gapRef),
          (.vRef, refField st.scu.speedRef), (.trim, optField st.scu.trim)] : List (TraceQuantity × Int)),
        c.quantity = some p.1 → c.index = some k →
          (1 ≤ k → k ≤ s.force.n → c.presence ≠ .gone → s.traceSample c = p.2)
          ∧ (k = 0 ∨ s.force.n < k ∨ c.presence = .gone → s.traceSample c = absentMarker))
    ∧ ∀ (t : Trace) (c : TraceChan) (i : Nat), i < c.fill → c.fill ≤ c.length →
      (c.mode ≠ .ring ∨ c.fill < c.length → t.sampleAt c i = Memory.read 0 t.mem (c.base + i))
      ∧ ∀ p, c.mode = .ring → c.fill = c.length → c.wpos = some p → c.base ≤ p → p < c.base + c.length →
        t.sampleAt c i = Memory.read 0 t.mem (if p + i < c.base + c.length then p + i else p + i - c.length)

/-- SUBSCRIBE keeps its interval exponent, clamped to 4 to 12, and its stands for the next strobe, an empty set meaning off; a stand
outside 1 to N is BAD_INDEX. RESTART is refused with WRONG_STATE unless every configured stand is PARKED or TRIPPED, no bar is in
the train and the store is idle; accepted, it is the last request taken, and once its reply has been sent the reset is due. That an
empty set is answered OK whatever its exponent is the model's choice (log 25). -/
def Obligations.SubscribeAndRestart : Prop :=
  ∀ (tag : Byte) (s : State),
    (∀ exponent stands : Byte, s.ready →
      let c : Instr := .subscribe tag exponent stands
      let n := max 4 (min 12 exponent.toNat)
      let ks := standsOf stands
      ((∃ k ∈ ks, s.conf.n < k) → exec c s = .next (s.replied 0x1F tag .badIndex []))
      ∧ ((∀ k ∈ ks, k ≤ s.conf.n) → ks = [] →
        let t : State := { s with link := { s.link with subNext := some none } }
        exec c s = .next (t.replied 0x1F tag .ok []))
      ∧ ((∀ k ∈ ks, k ≤ s.conf.n) → ks ≠ [] →
        let t : State := { s with link := { s.link with subNext := some (some ⟨n, ks⟩) } }
        exec c s = .next (t.replied 0x1F tag (if n = exponent.toNat then .ok else .clamped) [])))
    ∧ (s.ready →
      let idle : Prop := s.store.op = none ∧ s.track.bars = [] ∧ ∀ k, 1 ≤ k → k ≤ 7 → k ≤ s.conf.n →
        (s.stand k).sc.state = .parked ∨ (s.stand k).sc.state = .tripped
      (¬idle → exec (.restart tag) s = .next (s.replied 0x20 tag .wrongState []))
      ∧ (idle →
        let t : State := { s with link := { s.link with restart := .accepted } }
        exec (.restart tag) s = .next (t.replied 0x20 tag .ok [])))
    ∧ ∀ r p, s.link.restart = .accepted → s.link.tx = some (.reply r p) → r.kind = 0x20 → r.code = .ok → r.parts ≤ p →
      exec .transmitLineFree s = .next { s with link := { s.link with tx := none, restart := .due } }

/-! ### What every step keeps -/

/-- Every step keeps the three sparse memories in canonical form, and the trace channels' regions apart, each inside the trace memory,
with its write position and its samples inside it. -/
def Obligations.StepKeepsMemories : Prop :=
  ∀ s t : State, step s = .next t →
    (s.memoriesCanonical → t.memoriesCanonical) ∧ (s.regionsApart → t.regionsApart)

/-- Every step keeps the bounded lists within their places: 256 segments, 2 bars, 16 trip records, 32 reports, 4 queued requests
and 4 BUSY replies. -/
def Obligations.StepKeepsCapacity : Prop :=
  ∀ s t : State, s.withinCapacity → step s = .next t → t.withinCapacity

/-- Every step keeps each stand's trip latch set exactly when the stand is TRIPPED. -/
def Obligations.StepKeepsLatches : Prop :=
  ∀ s t : State, s.latchesMatch → step s = .next t → t.latchesMatch

/-- Every step keeps each driven gap reference within the stand limits in force, each monitor offset within ±M_limit in force, N
from 2 to 7, and the configured limits in order. -/
def Obligations.StepKeepsLimits : Prop :=
  ∀ s t : State, s.limitsHeld → step s = .next t → t.limitsHeld

/-- The machine right after reset has its memories in canonical form, its trace regions apart, its lists within their places, its latches
matching the states, and its references and offsets within their limits; and its link takes a request at once. -/
def Obligations.ResetHoldsInvariants : Prop :=
  State.reset.memoriesCanonical ∧ State.reset.regionsApart ∧ State.reset.withinCapacity ∧ State.reset.latchesMatch ∧ State.reset.limitsHeld
    ∧ State.reset.ready
end

