-- ==== Sys2Proof/Laws/State.lean ====
section
/-!
SUPPORT. Updates of the state, one lemma per field per update, and access to the numbered records.
-/

namespace Sys2Proof.Machine

/-! ### mapStand -/

@[simp] theorem State.mapStand_pending (s : State) (k : Nat) (f : Stand → Stand) : (s.mapStand k f).pending = s.pending := rfl
@[simp] theorem State.mapStand_conf (s : State) (k : Nat) (f : Stand → Stand) : (s.mapStand k f).conf = s.conf := rfl
@[simp] theorem State.mapStand_force (s : State) (k : Nat) (f : Stand → Stand) : (s.mapStand k f).force = s.force := rfl
@[simp] theorem State.mapStand_lowN (s : State) (k : Nat) (f : Stand → Stand) : (s.mapStand k f).lowN = s.lowN := rfl
@[simp] theorem State.mapStand_tb (s : State) (k : Nat) (f : Stand → Stand) : (s.mapStand k f).tb = s.tb := rfl
@[simp] theorem State.mapStand_estops (s : State) (k : Nat) (f : Stand → Stand) : (s.mapStand k f).estops = s.estops := rfl
@[simp] theorem State.mapStand_gauges (s : State) (k : Nat) (f : Stand → Stand) : (s.mapStand k f).gauges = s.gauges := rfl
@[simp] theorem State.mapStand_stands (s : State) (k : Nat) (f : Stand → Stand) : (s.mapStand k f).stands = s.stands.set k (f (s.stands.get k)) := rfl
@[simp] theorem State.mapStand_track (s : State) (k : Nat) (f : Stand → Stand) : (s.mapStand k f).track = s.track := rfl
@[simp] theorem State.mapStand_trips (s : State) (k : Nat) (f : Stand → Stand) : (s.mapStand k f).trips = s.trips := rfl
@[simp] theorem State.mapStand_images (s : State) (k : Nat) (f : Stand → Stand) : (s.mapStand k f).images = s.images := rfl
@[simp] theorem State.mapStand_store (s : State) (k : Nat) (f : Stand → Stand) : (s.mapStand k f).store = s.store := rfl
@[simp] theorem State.mapStand_trace (s : State) (k : Nat) (f : Stand → Stand) : (s.mapStand k f).trace = s.trace := rfl
@[simp] theorem State.mapStand_link (s : State) (k : Nat) (f : Stand → Stand) : (s.mapStand k f).link = s.link := rfl
@[simp] theorem State.mapStand_fresh (s : State) (k : Nat) (f : Stand → Stand) : (s.mapStand k f).fresh = s.fresh := rfl

/-! ### mapStands -/

@[simp] theorem State.mapStands_pending (s : State) (f : Nat → Stand → Stand) : (s.mapStands f).pending = s.pending := rfl
@[simp] theorem State.mapStands_conf (s : State) (f : Nat → Stand → Stand) : (s.mapStands f).conf = s.conf := rfl
@[simp] theorem State.mapStands_force (s : State) (f : Nat → Stand → Stand) : (s.mapStands f).force = s.force := rfl
@[simp] theorem State.mapStands_lowN (s : State) (f : Nat → Stand → Stand) : (s.mapStands f).lowN = s.lowN := rfl
@[simp] theorem State.mapStands_tb (s : State) (f : Nat → Stand → Stand) : (s.mapStands f).tb = s.tb := rfl
@[simp] theorem State.mapStands_estops (s : State) (f : Nat → Stand → Stand) : (s.mapStands f).estops = s.estops := rfl
@[simp] theorem State.mapStands_gauges (s : State) (f : Nat → Stand → Stand) : (s.mapStands f).gauges = s.gauges := rfl
@[simp] theorem State.mapStands_stands (s : State) (f : Nat → Stand → Stand) : (s.mapStands f).stands = s.stands.mapIdx f := rfl
@[simp] theorem State.mapStands_track (s : State) (f : Nat → Stand → Stand) : (s.mapStands f).track = s.track := rfl
@[simp] theorem State.mapStands_trips (s : State) (f : Nat → Stand → Stand) : (s.mapStands f).trips = s.trips := rfl
@[simp] theorem State.mapStands_images (s : State) (f : Nat → Stand → Stand) : (s.mapStands f).images = s.images := rfl
@[simp] theorem State.mapStands_store (s : State) (f : Nat → Stand → Stand) : (s.mapStands f).store = s.store := rfl
@[simp] theorem State.mapStands_trace (s : State) (f : Nat → Stand → Stand) : (s.mapStands f).trace = s.trace := rfl
@[simp] theorem State.mapStands_link (s : State) (f : Nat → Stand → Stand) : (s.mapStands f).link = s.link := rfl
@[simp] theorem State.mapStands_fresh (s : State) (f : Nat → Stand → Stand) : (s.mapStands f).fresh = s.fresh := rfl

/-! ### mapSc -/

@[simp] theorem State.mapSc_pending (s : State) (k : Nat) (f : StandRec → StandRec) : (s.mapSc k f).pending = s.pending := rfl
@[simp] theorem State.mapSc_conf (s : State) (k : Nat) (f : StandRec → StandRec) : (s.mapSc k f).conf = s.conf := rfl
@[simp] theorem State.mapSc_force (s : State) (k : Nat) (f : StandRec → StandRec) : (s.mapSc k f).force = s.force := rfl
@[simp] theorem State.mapSc_lowN (s : State) (k : Nat) (f : StandRec → StandRec) : (s.mapSc k f).lowN = s.lowN := rfl
@[simp] theorem State.mapSc_tb (s : State) (k : Nat) (f : StandRec → StandRec) : (s.mapSc k f).tb = s.tb := rfl
@[simp] theorem State.mapSc_estops (s : State) (k : Nat) (f : StandRec → StandRec) : (s.mapSc k f).estops = s.estops := rfl
@[simp] theorem State.mapSc_gauges (s : State) (k : Nat) (f : StandRec → StandRec) : (s.mapSc k f).gauges = s.gauges := rfl
@[simp] theorem State.mapSc_track (s : State) (k : Nat) (f : StandRec → StandRec) : (s.mapSc k f).track = s.track := rfl
@[simp] theorem State.mapSc_trips (s : State) (k : Nat) (f : StandRec → StandRec) : (s.mapSc k f).trips = s.trips := rfl
@[simp] theorem State.mapSc_images (s : State) (k : Nat) (f : StandRec → StandRec) : (s.mapSc k f).images = s.images := rfl
@[simp] theorem State.mapSc_store (s : State) (k : Nat) (f : StandRec → StandRec) : (s.mapSc k f).store = s.store := rfl
@[simp] theorem State.mapSc_trace (s : State) (k : Nat) (f : StandRec → StandRec) : (s.mapSc k f).trace = s.trace := rfl
@[simp] theorem State.mapSc_link (s : State) (k : Nat) (f : StandRec → StandRec) : (s.mapSc k f).link = s.link := rfl
@[simp] theorem State.mapSc_fresh (s : State) (k : Nat) (f : StandRec → StandRec) : (s.mapSc k f).fresh = s.fresh := rfl

/-! ### mapGcu -/

@[simp] theorem State.mapGcu_pending (s : State) (k : Nat) (f : Gcu → Gcu) : (s.mapGcu k f).pending = s.pending := rfl
@[simp] theorem State.mapGcu_conf (s : State) (k : Nat) (f : Gcu → Gcu) : (s.mapGcu k f).conf = s.conf := rfl
@[simp] theorem State.mapGcu_force (s : State) (k : Nat) (f : Gcu → Gcu) : (s.mapGcu k f).force = s.force := rfl
@[simp] theorem State.mapGcu_lowN (s : State) (k : Nat) (f : Gcu → Gcu) : (s.mapGcu k f).lowN = s.lowN := rfl
@[simp] theorem State.mapGcu_tb (s : State) (k : Nat) (f : Gcu → Gcu) : (s.mapGcu k f).tb = s.tb := rfl
@[simp] theorem State.mapGcu_estops (s : State) (k : Nat) (f : Gcu → Gcu) : (s.mapGcu k f).estops = s.estops := rfl
@[simp] theorem State.mapGcu_gauges (s : State) (k : Nat) (f : Gcu → Gcu) : (s.mapGcu k f).gauges = s.gauges := rfl
@[simp] theorem State.mapGcu_track (s : State) (k : Nat) (f : Gcu → Gcu) : (s.mapGcu k f).track = s.track := rfl
@[simp] theorem State.mapGcu_trips (s : State) (k : Nat) (f : Gcu → Gcu) : (s.mapGcu k f).trips = s.trips := rfl
@[simp] theorem State.mapGcu_images (s : State) (k : Nat) (f : Gcu → Gcu) : (s.mapGcu k f).images = s.images := rfl
@[simp] theorem State.mapGcu_store (s : State) (k : Nat) (f : Gcu → Gcu) : (s.mapGcu k f).store = s.store := rfl
@[simp] theorem State.mapGcu_trace (s : State) (k : Nat) (f : Gcu → Gcu) : (s.mapGcu k f).trace = s.trace := rfl
@[simp] theorem State.mapGcu_link (s : State) (k : Nat) (f : Gcu → Gcu) : (s.mapGcu k f).link = s.link := rfl
@[simp] theorem State.mapGcu_fresh (s : State) (k : Nat) (f : Gcu → Gcu) : (s.mapGcu k f).fresh = s.fresh := rfl

/-! ### mapCal -/

@[simp] theorem State.mapCal_pending (s : State) (k : Nat) (f : Cal → Cal) : (s.mapCal k f).pending = s.pending := rfl
@[simp] theorem State.mapCal_conf (s : State) (k : Nat) (f : Cal → Cal) : (s.mapCal k f).conf = s.conf := rfl
@[simp] theorem State.mapCal_force (s : State) (k : Nat) (f : Cal → Cal) : (s.mapCal k f).force = s.force := rfl
@[simp] theorem State.mapCal_lowN (s : State) (k : Nat) (f : Cal → Cal) : (s.mapCal k f).lowN = s.lowN := rfl
@[simp] theorem State.mapCal_tb (s : State) (k : Nat) (f : Cal → Cal) : (s.mapCal k f).tb = s.tb := rfl
@[simp] theorem State.mapCal_estops (s : State) (k : Nat) (f : Cal → Cal) : (s.mapCal k f).estops = s.estops := rfl
@[simp] theorem State.mapCal_gauges (s : State) (k : Nat) (f : Cal → Cal) : (s.mapCal k f).gauges = s.gauges := rfl
@[simp] theorem State.mapCal_track (s : State) (k : Nat) (f : Cal → Cal) : (s.mapCal k f).track = s.track := rfl
@[simp] theorem State.mapCal_trips (s : State) (k : Nat) (f : Cal → Cal) : (s.mapCal k f).trips = s.trips := rfl
@[simp] theorem State.mapCal_images (s : State) (k : Nat) (f : Cal → Cal) : (s.mapCal k f).images = s.images := rfl
@[simp] theorem State.mapCal_store (s : State) (k : Nat) (f : Cal → Cal) : (s.mapCal k f).store = s.store := rfl
@[simp] theorem State.mapCal_trace (s : State) (k : Nat) (f : Cal → Cal) : (s.mapCal k f).trace = s.trace := rfl
@[simp] theorem State.mapCal_link (s : State) (k : Nat) (f : Cal → Cal) : (s.mapCal k f).link = s.link := rfl
@[simp] theorem State.mapCal_fresh (s : State) (k : Nat) (f : Cal → Cal) : (s.mapCal k f).fresh = s.fresh := rfl

/-! ### putStand -/

@[simp] theorem State.putStand_pending (s : State) (k : Nat) (st : Stand) : (s.putStand k st).pending = s.pending := rfl
@[simp] theorem State.putStand_conf (s : State) (k : Nat) (st : Stand) : (s.putStand k st).conf = s.conf := rfl
@[simp] theorem State.putStand_force (s : State) (k : Nat) (st : Stand) : (s.putStand k st).force = s.force := rfl
@[simp] theorem State.putStand_lowN (s : State) (k : Nat) (st : Stand) : (s.putStand k st).lowN = s.lowN := rfl
@[simp] theorem State.putStand_tb (s : State) (k : Nat) (st : Stand) : (s.putStand k st).tb = s.tb := rfl
@[simp] theorem State.putStand_estops (s : State) (k : Nat) (st : Stand) : (s.putStand k st).estops = s.estops := rfl
@[simp] theorem State.putStand_gauges (s : State) (k : Nat) (st : Stand) : (s.putStand k st).gauges = s.gauges := rfl
@[simp] theorem State.putStand_stands (s : State) (k : Nat) (st : Stand) : (s.putStand k st).stands = s.stands.set k st := rfl
@[simp] theorem State.putStand_track (s : State) (k : Nat) (st : Stand) : (s.putStand k st).track = s.track := rfl
@[simp] theorem State.putStand_trips (s : State) (k : Nat) (st : Stand) : (s.putStand k st).trips = s.trips := rfl
@[simp] theorem State.putStand_images (s : State) (k : Nat) (st : Stand) : (s.putStand k st).images = s.images := rfl
@[simp] theorem State.putStand_store (s : State) (k : Nat) (st : Stand) : (s.putStand k st).store = s.store := rfl
@[simp] theorem State.putStand_trace (s : State) (k : Nat) (st : Stand) : (s.putStand k st).trace = s.trace := rfl
@[simp] theorem State.putStand_link (s : State) (k : Nat) (st : Stand) : (s.putStand k st).link = s.link := rfl
@[simp] theorem State.putStand_fresh (s : State) (k : Nat) (st : Stand) : (s.putStand k st).fresh = s.fresh := rfl

/-! ### mapTb -/

@[simp] theorem State.mapTb_pending (s : State) (f : Timebase → Timebase) : (s.mapTb f).pending = s.pending := rfl
@[simp] theorem State.mapTb_conf (s : State) (f : Timebase → Timebase) : (s.mapTb f).conf = s.conf := rfl
@[simp] theorem State.mapTb_force (s : State) (f : Timebase → Timebase) : (s.mapTb f).force = s.force := rfl
@[simp] theorem State.mapTb_lowN (s : State) (f : Timebase → Timebase) : (s.mapTb f).lowN = s.lowN := rfl
@[simp] theorem State.mapTb_tb (s : State) (f : Timebase → Timebase) : (s.mapTb f).tb = f s.tb := rfl
@[simp] theorem State.mapTb_estops (s : State) (f : Timebase → Timebase) : (s.mapTb f).estops = s.estops := rfl
@[simp] theorem State.mapTb_gauges (s : State) (f : Timebase → Timebase) : (s.mapTb f).gauges = s.gauges := rfl
@[simp] theorem State.mapTb_stands (s : State) (f : Timebase → Timebase) : (s.mapTb f).stands = s.stands := rfl
@[simp] theorem State.mapTb_track (s : State) (f : Timebase → Timebase) : (s.mapTb f).track = s.track := rfl
@[simp] theorem State.mapTb_trips (s : State) (f : Timebase → Timebase) : (s.mapTb f).trips = s.trips := rfl
@[simp] theorem State.mapTb_images (s : State) (f : Timebase → Timebase) : (s.mapTb f).images = s.images := rfl
@[simp] theorem State.mapTb_store (s : State) (f : Timebase → Timebase) : (s.mapTb f).store = s.store := rfl
@[simp] theorem State.mapTb_trace (s : State) (f : Timebase → Timebase) : (s.mapTb f).trace = s.trace := rfl
@[simp] theorem State.mapTb_link (s : State) (f : Timebase → Timebase) : (s.mapTb f).link = s.link := rfl
@[simp] theorem State.mapTb_fresh (s : State) (f : Timebase → Timebase) : (s.mapTb f).fresh = s.fresh := rfl

/-! ### mapTrack -/

@[simp] theorem State.mapTrack_pending (s : State) (f : Tracker → Tracker) : (s.mapTrack f).pending = s.pending := rfl
@[simp] theorem State.mapTrack_conf (s : State) (f : Tracker → Tracker) : (s.mapTrack f).conf = s.conf := rfl
@[simp] theorem State.mapTrack_force (s : State) (f : Tracker → Tracker) : (s.mapTrack f).force = s.force := rfl
@[simp] theorem State.mapTrack_lowN (s : State) (f : Tracker → Tracker) : (s.mapTrack f).lowN = s.lowN := rfl
@[simp] theorem State.mapTrack_tb (s : State) (f : Tracker → Tracker) : (s.mapTrack f).tb = s.tb := rfl
@[simp] theorem State.mapTrack_estops (s : State) (f : Tracker → Tracker) : (s.mapTrack f).estops = s.estops := rfl
@[simp] theorem State.mapTrack_gauges (s : State) (f : Tracker → Tracker) : (s.mapTrack f).gauges = s.gauges := rfl
@[simp] theorem State.mapTrack_stands (s : State) (f : Tracker → Tracker) : (s.mapTrack f).stands = s.stands := rfl
@[simp] theorem State.mapTrack_track (s : State) (f : Tracker → Tracker) : (s.mapTrack f).track = f s.track := rfl
@[simp] theorem State.mapTrack_trips (s : State) (f : Tracker → Tracker) : (s.mapTrack f).trips = s.trips := rfl
@[simp] theorem State.mapTrack_images (s : State) (f : Tracker → Tracker) : (s.mapTrack f).images = s.images := rfl
@[simp] theorem State.mapTrack_store (s : State) (f : Tracker → Tracker) : (s.mapTrack f).store = s.store := rfl
@[simp] theorem State.mapTrack_trace (s : State) (f : Tracker → Tracker) : (s.mapTrack f).trace = s.trace := rfl
@[simp] theorem State.mapTrack_link (s : State) (f : Tracker → Tracker) : (s.mapTrack f).link = s.link := rfl
@[simp] theorem State.mapTrack_fresh (s : State) (f : Tracker → Tracker) : (s.mapTrack f).fresh = s.fresh := rfl

/-! ### mapTrips -/

@[simp] theorem State.mapTrips_pending (s : State) (f : TripUnit → TripUnit) : (s.mapTrips f).pending = s.pending := rfl
@[simp] theorem State.mapTrips_conf (s : State) (f : TripUnit → TripUnit) : (s.mapTrips f).conf = s.conf := rfl
@[simp] theorem State.mapTrips_force (s : State) (f : TripUnit → TripUnit) : (s.mapTrips f).force = s.force := rfl
@[simp] theorem State.mapTrips_lowN (s : State) (f : TripUnit → TripUnit) : (s.mapTrips f).lowN = s.lowN := rfl
@[simp] theorem State.mapTrips_tb (s : State) (f : TripUnit → TripUnit) : (s.mapTrips f).tb = s.tb := rfl
@[simp] theorem State.mapTrips_estops (s : State) (f : TripUnit → TripUnit) : (s.mapTrips f).estops = s.estops := rfl
@[simp] theorem State.mapTrips_gauges (s : State) (f : TripUnit → TripUnit) : (s.mapTrips f).gauges = s.gauges := rfl
@[simp] theorem State.mapTrips_stands (s : State) (f : TripUnit → TripUnit) : (s.mapTrips f).stands = s.stands := rfl
@[simp] theorem State.mapTrips_track (s : State) (f : TripUnit → TripUnit) : (s.mapTrips f).track = s.track := rfl
@[simp] theorem State.mapTrips_trips (s : State) (f : TripUnit → TripUnit) : (s.mapTrips f).trips = f s.trips := rfl
@[simp] theorem State.mapTrips_images (s : State) (f : TripUnit → TripUnit) : (s.mapTrips f).images = s.images := rfl
@[simp] theorem State.mapTrips_store (s : State) (f : TripUnit → TripUnit) : (s.mapTrips f).store = s.store := rfl
@[simp] theorem State.mapTrips_trace (s : State) (f : TripUnit → TripUnit) : (s.mapTrips f).trace = s.trace := rfl
@[simp] theorem State.mapTrips_link (s : State) (f : TripUnit → TripUnit) : (s.mapTrips f).link = s.link := rfl
@[simp] theorem State.mapTrips_fresh (s : State) (f : TripUnit → TripUnit) : (s.mapTrips f).fresh = s.fresh := rfl

/-! ### mapStore -/

@[simp] theorem State.mapStore_pending (s : State) (f : Store → Store) : (s.mapStore f).pending = s.pending := rfl
@[simp] theorem State.mapStore_conf (s : State) (f : Store → Store) : (s.mapStore f).conf = s.conf := rfl
@[simp] theorem State.mapStore_force (s : State) (f : Store → Store) : (s.mapStore f).force = s.force := rfl
@[simp] theorem State.mapStore_lowN (s : State) (f : Store → Store) : (s.mapStore f).lowN = s.lowN := rfl
@[simp] theorem State.mapStore_tb (s : State) (f : Store → Store) : (s.mapStore f).tb = s.tb := rfl
@[simp] theorem State.mapStore_estops (s : State) (f : Store → Store) : (s.mapStore f).estops = s.estops := rfl
@[simp] theorem State.mapStore_gauges (s : State) (f : Store → Store) : (s.mapStore f).gauges = s.gauges := rfl
@[simp] theorem State.mapStore_stands (s : State) (f : Store → Store) : (s.mapStore f).stands = s.stands := rfl
@[simp] theorem State.mapStore_track (s : State) (f : Store → Store) : (s.mapStore f).track = s.track := rfl
@[simp] theorem State.mapStore_trips (s : State) (f : Store → Store) : (s.mapStore f).trips = s.trips := rfl
@[simp] theorem State.mapStore_images (s : State) (f : Store → Store) : (s.mapStore f).images = s.images := rfl
@[simp] theorem State.mapStore_store (s : State) (f : Store → Store) : (s.mapStore f).store = f s.store := rfl
@[simp] theorem State.mapStore_trace (s : State) (f : Store → Store) : (s.mapStore f).trace = s.trace := rfl
@[simp] theorem State.mapStore_link (s : State) (f : Store → Store) : (s.mapStore f).link = s.link := rfl
@[simp] theorem State.mapStore_fresh (s : State) (f : Store → Store) : (s.mapStore f).fresh = s.fresh := rfl

/-! ### mapTrace -/

@[simp] theorem State.mapTrace_pending (s : State) (f : Trace → Trace) : (s.mapTrace f).pending = s.pending := rfl
@[simp] theorem State.mapTrace_conf (s : State) (f : Trace → Trace) : (s.mapTrace f).conf = s.conf := rfl
@[simp] theorem State.mapTrace_force (s : State) (f : Trace → Trace) : (s.mapTrace f).force = s.force := rfl
@[simp] theorem State.mapTrace_lowN (s : State) (f : Trace → Trace) : (s.mapTrace f).lowN = s.lowN := rfl
@[simp] theorem State.mapTrace_tb (s : State) (f : Trace → Trace) : (s.mapTrace f).tb = s.tb := rfl
@[simp] theorem State.mapTrace_estops (s : State) (f : Trace → Trace) : (s.mapTrace f).estops = s.estops := rfl
@[simp] theorem State.mapTrace_gauges (s : State) (f : Trace → Trace) : (s.mapTrace f).gauges = s.gauges := rfl
@[simp] theorem State.mapTrace_stands (s : State) (f : Trace → Trace) : (s.mapTrace f).stands = s.stands := rfl
@[simp] theorem State.mapTrace_track (s : State) (f : Trace → Trace) : (s.mapTrace f).track = s.track := rfl
@[simp] theorem State.mapTrace_trips (s : State) (f : Trace → Trace) : (s.mapTrace f).trips = s.trips := rfl
@[simp] theorem State.mapTrace_images (s : State) (f : Trace → Trace) : (s.mapTrace f).images = s.images := rfl
@[simp] theorem State.mapTrace_store (s : State) (f : Trace → Trace) : (s.mapTrace f).store = s.store := rfl
@[simp] theorem State.mapTrace_trace (s : State) (f : Trace → Trace) : (s.mapTrace f).trace = f s.trace := rfl
@[simp] theorem State.mapTrace_link (s : State) (f : Trace → Trace) : (s.mapTrace f).link = s.link := rfl
@[simp] theorem State.mapTrace_fresh (s : State) (f : Trace → Trace) : (s.mapTrace f).fresh = s.fresh := rfl

/-! ### mapLink -/

@[simp] theorem State.mapLink_pending (s : State) (f : Link → Link) : (s.mapLink f).pending = s.pending := rfl
@[simp] theorem State.mapLink_conf (s : State) (f : Link → Link) : (s.mapLink f).conf = s.conf := rfl
@[simp] theorem State.mapLink_force (s : State) (f : Link → Link) : (s.mapLink f).force = s.force := rfl
@[simp] theorem State.mapLink_lowN (s : State) (f : Link → Link) : (s.mapLink f).lowN = s.lowN := rfl
@[simp] theorem State.mapLink_tb (s : State) (f : Link → Link) : (s.mapLink f).tb = s.tb := rfl
@[simp] theorem State.mapLink_estops (s : State) (f : Link → Link) : (s.mapLink f).estops = s.estops := rfl
@[simp] theorem State.mapLink_gauges (s : State) (f : Link → Link) : (s.mapLink f).gauges = s.gauges := rfl
@[simp] theorem State.mapLink_stands (s : State) (f : Link → Link) : (s.mapLink f).stands = s.stands := rfl
@[simp] theorem State.mapLink_track (s : State) (f : Link → Link) : (s.mapLink f).track = s.track := rfl
@[simp] theorem State.mapLink_trips (s : State) (f : Link → Link) : (s.mapLink f).trips = s.trips := rfl
@[simp] theorem State.mapLink_images (s : State) (f : Link → Link) : (s.mapLink f).images = s.images := rfl
@[simp] theorem State.mapLink_store (s : State) (f : Link → Link) : (s.mapLink f).store = s.store := rfl
@[simp] theorem State.mapLink_trace (s : State) (f : Link → Link) : (s.mapLink f).trace = s.trace := rfl
@[simp] theorem State.mapLink_link (s : State) (f : Link → Link) : (s.mapLink f).link = f s.link := rfl
@[simp] theorem State.mapLink_fresh (s : State) (f : Link → Link) : (s.mapLink f).fresh = s.fresh := rfl

/-! ### mapBar -/

@[simp] theorem State.mapBar_pending (s : State) (id : Nat) (f : Bar → Bar) : (s.mapBar id f).pending = s.pending := rfl
@[simp] theorem State.mapBar_conf (s : State) (id : Nat) (f : Bar → Bar) : (s.mapBar id f).conf = s.conf := rfl
@[simp] theorem State.mapBar_force (s : State) (id : Nat) (f : Bar → Bar) : (s.mapBar id f).force = s.force := rfl
@[simp] theorem State.mapBar_lowN (s : State) (id : Nat) (f : Bar → Bar) : (s.mapBar id f).lowN = s.lowN := rfl
@[simp] theorem State.mapBar_tb (s : State) (id : Nat) (f : Bar → Bar) : (s.mapBar id f).tb = s.tb := rfl
@[simp] theorem State.mapBar_estops (s : State) (id : Nat) (f : Bar → Bar) : (s.mapBar id f).estops = s.estops := rfl
@[simp] theorem State.mapBar_gauges (s : State) (id : Nat) (f : Bar → Bar) : (s.mapBar id f).gauges = s.gauges := rfl
@[simp] theorem State.mapBar_stands (s : State) (id : Nat) (f : Bar → Bar) : (s.mapBar id f).stands = s.stands := rfl
@[simp] theorem State.mapBar_trips (s : State) (id : Nat) (f : Bar → Bar) : (s.mapBar id f).trips = s.trips := rfl
@[simp] theorem State.mapBar_images (s : State) (id : Nat) (f : Bar → Bar) : (s.mapBar id f).images = s.images := rfl
@[simp] theorem State.mapBar_store (s : State) (id : Nat) (f : Bar → Bar) : (s.mapBar id f).store = s.store := rfl
@[simp] theorem State.mapBar_trace (s : State) (id : Nat) (f : Bar → Bar) : (s.mapBar id f).trace = s.trace := rfl
@[simp] theorem State.mapBar_link (s : State) (id : Nat) (f : Bar → Bar) : (s.mapBar id f).link = s.link := rfl
@[simp] theorem State.mapBar_fresh (s : State) (id : Nat) (f : Bar → Bar) : (s.mapBar id f).fresh = s.fresh := rfl

/-! ### setChan -/

@[simp] theorem State.setChan_pending (s : State) (ch : Nat) (c : TraceChan) : (s.setChan ch c).pending = s.pending := rfl
@[simp] theorem State.setChan_conf (s : State) (ch : Nat) (c : TraceChan) : (s.setChan ch c).conf = s.conf := rfl
@[simp] theorem State.setChan_force (s : State) (ch : Nat) (c : TraceChan) : (s.setChan ch c).force = s.force := rfl
@[simp] theorem State.setChan_lowN (s : State) (ch : Nat) (c : TraceChan) : (s.setChan ch c).lowN = s.lowN := rfl
@[simp] theorem State.setChan_tb (s : State) (ch : Nat) (c : TraceChan) : (s.setChan ch c).tb = s.tb := rfl
@[simp] theorem State.setChan_estops (s : State) (ch : Nat) (c : TraceChan) : (s.setChan ch c).estops = s.estops := rfl
@[simp] theorem State.setChan_gauges (s : State) (ch : Nat) (c : TraceChan) : (s.setChan ch c).gauges = s.gauges := rfl
@[simp] theorem State.setChan_stands (s : State) (ch : Nat) (c : TraceChan) : (s.setChan ch c).stands = s.stands := rfl
@[simp] theorem State.setChan_track (s : State) (ch : Nat) (c : TraceChan) : (s.setChan ch c).track = s.track := rfl
@[simp] theorem State.setChan_trips (s : State) (ch : Nat) (c : TraceChan) : (s.setChan ch c).trips = s.trips := rfl
@[simp] theorem State.setChan_images (s : State) (ch : Nat) (c : TraceChan) : (s.setChan ch c).images = s.images := rfl
@[simp] theorem State.setChan_store (s : State) (ch : Nat) (c : TraceChan) : (s.setChan ch c).store = s.store := rfl
@[simp] theorem State.setChan_link (s : State) (ch : Nat) (c : TraceChan) : (s.setChan ch c).link = s.link := rfl
@[simp] theorem State.setChan_fresh (s : State) (ch : Nat) (c : TraceChan) : (s.setChan ch c).fresh = s.fresh := rfl

/-! ### reportAt -/

@[simp] theorem State.reportAt_pending (s : State) (c : Cycle) (kind : EventKind) (fields : List Int) : (s.reportAt c kind fields).pending = s.pending := rfl
@[simp] theorem State.reportAt_conf (s : State) (c : Cycle) (kind : EventKind) (fields : List Int) : (s.reportAt c kind fields).conf = s.conf := rfl
@[simp] theorem State.reportAt_force (s : State) (c : Cycle) (kind : EventKind) (fields : List Int) : (s.reportAt c kind fields).force = s.force := rfl
@[simp] theorem State.reportAt_lowN (s : State) (c : Cycle) (kind : EventKind) (fields : List Int) : (s.reportAt c kind fields).lowN = s.lowN := rfl
@[simp] theorem State.reportAt_tb (s : State) (c : Cycle) (kind : EventKind) (fields : List Int) : (s.reportAt c kind fields).tb = s.tb := rfl
@[simp] theorem State.reportAt_estops (s : State) (c : Cycle) (kind : EventKind) (fields : List Int) : (s.reportAt c kind fields).estops = s.estops := rfl
@[simp] theorem State.reportAt_gauges (s : State) (c : Cycle) (kind : EventKind) (fields : List Int) : (s.reportAt c kind fields).gauges = s.gauges := rfl
@[simp] theorem State.reportAt_stands (s : State) (c : Cycle) (kind : EventKind) (fields : List Int) : (s.reportAt c kind fields).stands = s.stands := rfl
@[simp] theorem State.reportAt_track (s : State) (c : Cycle) (kind : EventKind) (fields : List Int) : (s.reportAt c kind fields).track = s.track := rfl
@[simp] theorem State.reportAt_trips (s : State) (c : Cycle) (kind : EventKind) (fields : List Int) : (s.reportAt c kind fields).trips = s.trips := rfl
@[simp] theorem State.reportAt_images (s : State) (c : Cycle) (kind : EventKind) (fields : List Int) : (s.reportAt c kind fields).images = s.images := rfl
@[simp] theorem State.reportAt_store (s : State) (c : Cycle) (kind : EventKind) (fields : List Int) : (s.reportAt c kind fields).store = s.store := rfl
@[simp] theorem State.reportAt_trace (s : State) (c : Cycle) (kind : EventKind) (fields : List Int) : (s.reportAt c kind fields).trace = s.trace := rfl
@[simp] theorem State.reportAt_link (s : State) (c : Cycle) (kind : EventKind) (fields : List Int) : (s.reportAt c kind fields).link = s.link.queueEvent c kind fields := rfl
@[simp] theorem State.reportAt_fresh (s : State) (c : Cycle) (kind : EventKind) (fields : List Int) : (s.reportAt c kind fields).fresh = s.fresh := rfl

/-! ### report -/

@[simp] theorem State.report_pending (s : State) (kind : EventKind) (fields : List Int) : (s.report kind fields).pending = s.pending := rfl
@[simp] theorem State.report_conf (s : State) (kind : EventKind) (fields : List Int) : (s.report kind fields).conf = s.conf := rfl
@[simp] theorem State.report_force (s : State) (kind : EventKind) (fields : List Int) : (s.report kind fields).force = s.force := rfl
@[simp] theorem State.report_lowN (s : State) (kind : EventKind) (fields : List Int) : (s.report kind fields).lowN = s.lowN := rfl
@[simp] theorem State.report_tb (s : State) (kind : EventKind) (fields : List Int) : (s.report kind fields).tb = s.tb := rfl
@[simp] theorem State.report_estops (s : State) (kind : EventKind) (fields : List Int) : (s.report kind fields).estops = s.estops := rfl
@[simp] theorem State.report_gauges (s : State) (kind : EventKind) (fields : List Int) : (s.report kind fields).gauges = s.gauges := rfl
@[simp] theorem State.report_stands (s : State) (kind : EventKind) (fields : List Int) : (s.report kind fields).stands = s.stands := rfl
@[simp] theorem State.report_track (s : State) (kind : EventKind) (fields : List Int) : (s.report kind fields).track = s.track := rfl
@[simp] theorem State.report_trips (s : State) (kind : EventKind) (fields : List Int) : (s.report kind fields).trips = s.trips := rfl
@[simp] theorem State.report_images (s : State) (kind : EventKind) (fields : List Int) : (s.report kind fields).images = s.images := rfl
@[simp] theorem State.report_store (s : State) (kind : EventKind) (fields : List Int) : (s.report kind fields).store = s.store := rfl
@[simp] theorem State.report_trace (s : State) (kind : EventKind) (fields : List Int) : (s.report kind fields).trace = s.trace := rfl
@[simp] theorem State.report_link (s : State) (kind : EventKind) (fields : List Int) : (s.report kind fields).link = s.link.queueEvent s.tb.cycle kind fields := rfl
@[simp] theorem State.report_fresh (s : State) (kind : EventKind) (fields : List Int) : (s.report kind fields).fresh = s.fresh := rfl

/-! ### trigger -/

@[simp] theorem State.trigger_pending (s : State) (t : Trigger) : (s.trigger t).pending = s.pending := rfl
@[simp] theorem State.trigger_conf (s : State) (t : Trigger) : (s.trigger t).conf = s.conf := rfl
@[simp] theorem State.trigger_force (s : State) (t : Trigger) : (s.trigger t).force = s.force := rfl
@[simp] theorem State.trigger_lowN (s : State) (t : Trigger) : (s.trigger t).lowN = s.lowN := rfl
@[simp] theorem State.trigger_tb (s : State) (t : Trigger) : (s.trigger t).tb = s.tb := rfl
@[simp] theorem State.trigger_estops (s : State) (t : Trigger) : (s.trigger t).estops = s.estops := rfl
@[simp] theorem State.trigger_gauges (s : State) (t : Trigger) : (s.trigger t).gauges = s.gauges := rfl
@[simp] theorem State.trigger_stands (s : State) (t : Trigger) : (s.trigger t).stands = s.stands := rfl
@[simp] theorem State.trigger_track (s : State) (t : Trigger) : (s.trigger t).track = s.track := rfl
@[simp] theorem State.trigger_trips (s : State) (t : Trigger) : (s.trigger t).trips = s.trips := rfl
@[simp] theorem State.trigger_images (s : State) (t : Trigger) : (s.trigger t).images = s.images := rfl
@[simp] theorem State.trigger_store (s : State) (t : Trigger) : (s.trigger t).store = s.store := rfl
@[simp] theorem State.trigger_link (s : State) (t : Trigger) : (s.trigger t).link = s.link := rfl
@[simp] theorem State.trigger_fresh (s : State) (t : Trigger) : (s.trigger t).fresh = s.fresh := rfl

/-! ### putReply -/

@[simp] theorem State.putReply_pending (s : State) (kind tag : Byte) (code : Code) (body : List Int) : (s.putReply kind tag code body).pending = s.pending := rfl
@[simp] theorem State.putReply_conf (s : State) (kind tag : Byte) (code : Code) (body : List Int) : (s.putReply kind tag code body).conf = s.conf := rfl
@[simp] theorem State.putReply_force (s : State) (kind tag : Byte) (code : Code) (body : List Int) : (s.putReply kind tag code body).force = s.force := rfl
@[simp] theorem State.putReply_lowN (s : State) (kind tag : Byte) (code : Code) (body : List Int) : (s.putReply kind tag code body).lowN = s.lowN := rfl
@[simp] theorem State.putReply_tb (s : State) (kind tag : Byte) (code : Code) (body : List Int) : (s.putReply kind tag code body).tb = s.tb := rfl
@[simp] theorem State.putReply_estops (s : State) (kind tag : Byte) (code : Code) (body : List Int) : (s.putReply kind tag code body).estops = s.estops := rfl
@[simp] theorem State.putReply_gauges (s : State) (kind tag : Byte) (code : Code) (body : List Int) : (s.putReply kind tag code body).gauges = s.gauges := rfl
@[simp] theorem State.putReply_stands (s : State) (kind tag : Byte) (code : Code) (body : List Int) : (s.putReply kind tag code body).stands = s.stands := rfl
@[simp] theorem State.putReply_track (s : State) (kind tag : Byte) (code : Code) (body : List Int) : (s.putReply kind tag code body).track = s.track := rfl
@[simp] theorem State.putReply_trips (s : State) (kind tag : Byte) (code : Code) (body : List Int) : (s.putReply kind tag code body).trips = s.trips := rfl
@[simp] theorem State.putReply_images (s : State) (kind tag : Byte) (code : Code) (body : List Int) : (s.putReply kind tag code body).images = s.images := rfl
@[simp] theorem State.putReply_store (s : State) (kind tag : Byte) (code : Code) (body : List Int) : (s.putReply kind tag code body).store = s.store := rfl
@[simp] theorem State.putReply_trace (s : State) (kind tag : Byte) (code : Code) (body : List Int) : (s.putReply kind tag code body).trace = s.trace := rfl
@[simp] theorem State.putReply_fresh (s : State) (kind tag : Byte) (code : Code) (body : List Int) : (s.putReply kind tag code body).fresh = s.fresh := rfl

/-! ### replied -/

@[simp] theorem State.replied_pending (s : State) (kind tag : Byte) (code : Code) (body : List Int) : (s.replied kind tag code body).pending = s.pending := rfl
@[simp] theorem State.replied_conf (s : State) (kind tag : Byte) (code : Code) (body : List Int) : (s.replied kind tag code body).conf = s.conf := rfl
@[simp] theorem State.replied_force (s : State) (kind tag : Byte) (code : Code) (body : List Int) : (s.replied kind tag code body).force = s.force := rfl
@[simp] theorem State.replied_lowN (s : State) (kind tag : Byte) (code : Code) (body : List Int) : (s.replied kind tag code body).lowN = s.lowN := rfl
@[simp] theorem State.replied_tb (s : State) (kind tag : Byte) (code : Code) (body : List Int) : (s.replied kind tag code body).tb = s.tb := rfl
@[simp] theorem State.replied_estops (s : State) (kind tag : Byte) (code : Code) (body : List Int) : (s.replied kind tag code body).estops = s.estops := rfl
@[simp] theorem State.replied_gauges (s : State) (kind tag : Byte) (code : Code) (body : List Int) : (s.replied kind tag code body).gauges = s.gauges := rfl
@[simp] theorem State.replied_stands (s : State) (kind tag : Byte) (code : Code) (body : List Int) : (s.replied kind tag code body).stands = s.stands := rfl
@[simp] theorem State.replied_track (s : State) (kind tag : Byte) (code : Code) (body : List Int) : (s.replied kind tag code body).track = s.track := rfl
@[simp] theorem State.replied_trips (s : State) (kind tag : Byte) (code : Code) (body : List Int) : (s.replied kind tag code body).trips = s.trips := rfl
@[simp] theorem State.replied_images (s : State) (kind tag : Byte) (code : Code) (body : List Int) : (s.replied kind tag code body).images = s.images := rfl
@[simp] theorem State.replied_store (s : State) (kind tag : Byte) (code : Code) (body : List Int) : (s.replied kind tag code body).store = s.store := rfl
@[simp] theorem State.replied_trace (s : State) (kind tag : Byte) (code : Code) (body : List Int) : (s.replied kind tag code body).trace = s.trace := rfl
@[simp] theorem State.replied_fresh (s : State) (kind tag : Byte) (code : Code) (body : List Int) : (s.replied kind tag code body).fresh = s.fresh := rfl

/-! ### Numbered records -/

/-- A stand number is one of the seven. -/
theorem stand_cases {k : Nat} (h1 : 1 ≤ k) (h7 : k ≤ 7) : k = 1 ∨ k = 2 ∨ k = 3 ∨ k = 4 ∨ k = 5 ∨ k = 6 ∨ k = 7 := by
  omega

theorem PerStand.get_set_same {α : Type} (p : PerStand α) {k : Nat} (h1 : 1 ≤ k) (h7 : k ≤ 7) (x : α) :
    (p.set k x).get k = x := by
  obtain rfl | rfl | rfl | rfl | rfl | rfl | rfl := stand_cases h1 h7 <;> rfl

theorem PerStand.get_set_ne {α : Type} (p : PerStand α) {j k : Nat} (h1 : 1 ≤ j) (h7 : j ≤ 7) (hk : k ≠ j) (x : α) :
    (p.set k x).get j = p.get j := by
  obtain rfl | rfl | rfl | rfl | rfl | rfl | rfl := stand_cases h1 h7 <;> unfold PerStand.set <;> split <;>
    first | rfl | exact absurd rfl hk

theorem PerStand.get_mapIdx {α β : Type} (f : Nat → α → β) (p : PerStand α) {k : Nat} (h1 : 1 ≤ k) (h7 : k ≤ 7) :
    (p.mapIdx f).get k = f k (p.get k) := by
  obtain rfl | rfl | rfl | rfl | rfl | rfl | rfl := stand_cases h1 h7 <;> rfl

theorem PerStand.set_get {α : Type} (p : PerStand α) (k : Nat) : p.set k (p.get k) = p := by
  unfold PerStand.set; split <;> rfl

theorem State.stand_mapStand_same (s : State) {k : Nat} (h1 : 1 ≤ k) (h7 : k ≤ 7) (f : Stand → Stand) :
    (s.mapStand k f).stand k = f (s.stand k) := PerStand.get_set_same _ h1 h7 _

theorem State.stand_mapStand_ne (s : State) {j k : Nat} (h1 : 1 ≤ j) (h7 : j ≤ 7) (hk : k ≠ j) (f : Stand → Stand) :
    (s.mapStand k f).stand j = s.stand j := PerStand.get_set_ne _ h1 h7 hk _

theorem State.stand_mapStands (s : State) {k : Nat} (h1 : 1 ≤ k) (h7 : k ≤ 7) (f : Nat → Stand → Stand) :
    (s.mapStands f).stand k = f k (s.stand k) := PerStand.get_mapIdx f _ h1 h7

/-- `mapSc`, `mapGcu` and `mapCal` change one part of one stand. -/
theorem State.mapSc_eq (s : State) (k : Nat) (f : StandRec → StandRec) :
    s.mapSc k f = s.putStand k { s.stand k with sc := f (s.stand k).sc } := rfl

theorem State.mapGcu_eq (s : State) (k : Nat) (f : Gcu → Gcu) :
    s.mapGcu k f = s.putStand k { s.stand k with gcu := f (s.stand k).gcu } := rfl

theorem State.mapCal_eq (s : State) (k : Nat) (f : Cal → Cal) :
    s.mapCal k f = s.putStand k { s.stand k with cal := f (s.stand k).cal } := rfl

theorem State.stand_putStand_same (s : State) {k : Nat} (h1 : 1 ≤ k) (h7 : k ≤ 7) (st : Stand) :
    (s.putStand k st).stand k = st := PerStand.get_set_same _ h1 h7 _

theorem State.stand_putStand_ne (s : State) {j k : Nat} (h1 : 1 ≤ j) (h7 : j ≤ 7) (hk : k ≠ j) (st : Stand) :
    (s.putStand k st).stand j = s.stand j := PerStand.get_set_ne _ h1 h7 hk _

/-- The stand numbers 1 to `n`, none above 7. -/
theorem mem_standsTo {n k : Nat} : k ∈ standsTo n ↔ 1 ≤ k ∧ k ≤ 7 ∧ k ≤ n := by
  simp only [standsTo, List.mem_filter, List.mem_cons, List.not_mem_nil, or_false, decide_eq_true_eq]; omega

/-! ### Folds over stands -/

/-- What every step of a fold over stands keeps, the fold keeps. -/
theorem State.forStands_induct {P : State → Prop} (n : Nat) (f : Nat → State → State)
    (hf : ∀ k s, P s → P (f k s)) (s : State) (h : P s) : P (s.forStands n f) := by
  unfold State.forStands
  generalize standsTo n = l
  induction l generalizing s with
  | nil => exact h
  | cons k l ih => exact ih _ (hf k s h)

/-- The same for a fold over any list. -/
theorem foldl_induct {α β : Type} {P : β → Prop} (f : β → α → β) (hf : ∀ b a, P b → P (f b a)) (l : List α) (b : β)
    (h : P b) : P (l.foldl f b) := by
  induction l generalizing b with
  | nil => exact h
  | cons a l ih => exact ih _ (hf b a h)

end Sys2Proof.Machine
end

