-- ==== Sys2Proof/Laws/Fields.lean ====
section
/-!
SUPPORT. The configuration by code and index: what a replaced field, row, zone, gauge, stand or channel scaling reads as, said once (R189,
R190).
-/

namespace Sys2Proof.Machine

/-! ### Numbered records -/

theorem PerStand.get_set {α : Type} (p : PerStand α) {i j : Nat} (hi : 1 ≤ i) (hi' : i ≤ 7) (hj : 1 ≤ j) (hj' : j ≤ 7) (x : α) :
    (p.set i x).get j = if j = i then x else p.get j := by
  interval_cases i <;> interval_cases j <;> rfl

theorem PerGauge.get_set {α : Type} (p : PerGauge α) {i j : Nat} (hi : 1 ≤ i) (hi' : i ≤ 3) (hj : 1 ≤ j) (hj' : j ≤ 3) (x : α) :
    (p.set i x).get j = if j = i then x else p.get j := by
  interval_cases i <;> interval_cases j <;> rfl

theorem PerZone.get_set {α : Type} (p : PerZone α) {i j : Nat} (hi : 1 ≤ i) (hi' : i ≤ 6) (hj : 1 ≤ j) (hj' : j ≤ 6) (x : α) :
    (p.set i x).get j = if j = i then x else p.get j := by
  interval_cases i <;> interval_cases j <;> rfl

theorem Matrix.row_setRow (m : Matrix) {i j : Nat} (hi : i ≤ 14) (hj : j ≤ 14) (r : Row) :
    (m.setRow i r).row j = if j = i then r else m.row j := by
  interval_cases i <;> interval_cases j <;> rfl

/-! ### Fields of a stand and of a row -/

theorem StandConf.field_setField (c : StandConf) {code code' : Nat} (h : 16 ≤ code) (h' : code ≤ 31) (k : 16 ≤ code')
    (k' : code' ≤ 31) (v : Int) : (c.setField code v).field code' = if code' = code then v else c.field code' := by
  interval_cases code <;> interval_cases code' <;> rfl

theorem StandConf.setField_scales (c : StandConf) (code : Nat) (v : Int) :
    (c.setField code v).gapScale = c.gapScale ∧ (c.setField code v).forceScale = c.forceScale
      ∧ (c.setField code v).speedScale = c.speedScale := by
  unfold StandConf.setField
  split <;> exact ⟨rfl, rfl, rfl⟩

theorem StandConf.field_scales (c : StandConf) (code : Nat) (x : Scaling) :
    ({ c with gapScale := x } : StandConf).field code = c.field code
      ∧ ({ c with forceScale := x } : StandConf).field code = c.field code
      ∧ ({ c with speedScale := x } : StandConf).field code = c.field code := by
  refine ⟨?_, ?_, ?_⟩ <;> (unfold StandConf.field; split <;> rfl)

theorem Row.field_setField (r : Row) {code code' : Nat} (h : 32 ≤ code) (h' : code ≤ 35) (k : 32 ≤ code') (k' : code' ≤ 35)
    (v : Int) : (r.setField code v).field code' = if code' = code then v else r.field code' := by
  interval_cases code <;> interval_cases code' <;> rfl

/-! ### Fields of the configuration -/

theorem Conf.field_stand (c : Conf) {code : Nat} (h : 16 ≤ code) (h' : code ≤ 31) (k : Nat) :
    c.field code k = (c.stands.get k).field code := by
  interval_cases code <;> rfl

theorem Conf.field_row (c : Conf) {code : Nat} (h : 32 ≤ code) (h' : code ≤ 35) (i : Nat) :
    c.field code i = (c.matrix.row i).field code := by
  interval_cases code <;> rfl

theorem Conf.setField_stand (c : Conf) {code : Nat} (h : 16 ≤ code) (h' : code ≤ 31) (k : Nat) (v : Int) :
    c.setField code k v = { c with stands := c.stands.set k ((c.stands.get k).setField code v) } := by
  interval_cases code <;> rfl

theorem Conf.setField_row (c : Conf) {code : Nat} (h : 32 ≤ code) (h' : code ≤ 35) (i : Nat) (v : Int) :
    c.setField code i v = { c with matrix := c.matrix.setRow i ((c.matrix.row i).setField code v) } := by
  interval_cases code <;> rfl

/-! ### Channel scalings -/

theorem Conf.scaling_setScaling (c : Conf) {i j : Nat} (hi : i ≤ 23) (hj : j ≤ 23) (x : Scaling) :
    (c.setScaling i x).scaling j = if j = i then x else c.scaling j := by
  interval_cases i <;> interval_cases j <;> rfl

/-- A channel's scaling rests on the scalings of the stands and gauges alone. -/
theorem Conf.scaling_congr {c d : Conf} (hg : ∀ g, 1 ≤ g → g ≤ 3 → (c.gauges.get g).scale = (d.gauges.get g).scale)
    (hs : ∀ k, 1 ≤ k → k ≤ 7 → (c.stands.get k).gapScale = (d.stands.get k).gapScale
      ∧ (c.stands.get k).forceScale = (d.stands.get k).forceScale ∧ (c.stands.get k).speedScale = (d.stands.get k).speedScale)
    {ch : Nat} (h : ch ≤ 23) : c.scaling ch = d.scaling ch := by
  unfold Conf.scaling
  split
  · exact hg _ (by omega) (by omega)
  · obtain ⟨gap, force, speed⟩ := hs (chanStand ch) (by unfold chanStand; omega) (by unfold chanStand; omega)
    simp only [gap, force, speed]

/-- A replaced scaling leaves every stand field as it was. -/
theorem Conf.stand_field_setScaling (c : Conf) {ch k : Nat} (hc : ch ≤ 23) (h1 : 1 ≤ k) (h7 : k ≤ 7) (x : Scaling) (code : Nat) :
    ((c.setScaling ch x).stands.get k).field code = (c.stands.get k).field code := by
  unfold Conf.setScaling
  split
  · rfl
  · dsimp only
    rw [PerStand.get_set _ (by unfold chanStand; omega) (by unfold chanStand; omega) h1 h7]
    split
    · rename_i e
      rw [e]
      split_ifs <;> simp only [StandConf.field_scales]
    · rfl

/-- A replaced scaling leaves every gauge's placement, binding and divider as they were. -/
theorem Conf.gauge_setScaling (c : Conf) {ch g : Nat} (hc : ch ≤ 23) (h1 : 1 ≤ g) (h3 : g ≤ 3) (x : Scaling) :
    let a := (c.setScaling ch x).gauges.get g
    let b := c.gauges.get g
    a.zone = b.zone ∧ a.dist = b.dist ∧ a.bound = b.bound ∧ a.divider = b.divider := by
  unfold Conf.setScaling
  split
  · dsimp only
    rw [PerGauge.get_set _ (by omega) (by omega) h1 h3]
    split
    · rename_i e
      rw [e]
      exact ⟨rfl, rfl, rfl, rfl⟩
    · exact ⟨rfl, rfl, rfl, rfl⟩
  · exact ⟨rfl, rfl, rfl, rfl⟩

end Sys2Proof.Machine
end

