-- ==== Sys2Proof/Laws/Link.lean ====
section
/-!
SUPPORT. What an arriving request does, said once: taken at once by a ready link, or left waiting (R182).
-/

namespace Sys2Proof.Machine

/-- Every request command is the arrival of its request. -/
theorem exec_request {c : Instr} {tag : Byte} {req : Req} (h : c.request? = some (tag, req)) (s : State) :
    exec c s = .next (s.request tag req) := by
  cases c <;> simp only [Instr.request?, reduceCtorEq, Option.some.injEq, Prod.mk.injEq] at h <;>
    (obtain ⟨rfl, rfl⟩ := h; rfl)

/-- A request that reaches a ready link is taken, and its reply stands in the slot. -/
theorem State.request_ready {s : State} (h : s.ready) (tag : Byte) (req : Req) :
    s.request tag req = (s.take req).1.replied (reqKind req) tag (s.take req).2.1 (s.take req).2.2 := by
  obtain ⟨hr, hq, hs⟩ := h
  cases s with
  | mk pending conf force lowN tb estops gauges stands track trips images store trace link fresh =>
    cases link with
    | mk rx queue slot busy order tx reports lostFlag seq skipped sub subNext discards overruns rate restart =>
      simp only at hr hq hs
      subst hr hq hs
      rfl

/-- A request that is not handed out joins the queue, or draws BUSY, or is lost. -/
theorem State.request_waits {s : State} (h : s.link.slot ≠ none ∨ s.link.restart ≠ .nothing) (tag : Byte) (req : Req) :
    s.request tag req = s.arrive tag req := by
  have e1 : (s.arrive tag req).link.slot = s.link.slot := by
    unfold State.arrive; dsimp only; split
    · rfl
    · split <;> rfl
  have e2 : (s.arrive tag req).link.restart = s.link.restart := by
    unfold State.arrive; dsimp only; split
    · rfl
    · split <;> rfl
  unfold State.request State.pump
  split
  · rename_i h1 h2
    rw [e1] at h1
    rw [e2]
    rcases h with h | h
    · exact absurd h1 h
    · rw [if_neg h]
  · rfl

/-- A frame leaves nothing to hand out when the queue is empty. -/
theorem State.pump_empty {s : State} (h : s.link.queue = []) : s.pump = s := by
  unfold State.pump
  split
  · rename_i h2; rw [h] at h2; cases h2
  · rfl

/-- What the receiver made of its bytes takes effect one after another (R181). -/
@[simp] theorem State.rxEvents_nil (s : State) : s.rxEvents [] = s := rfl

@[simp] theorem State.rxEvents_cons (s : State) (e : RxEvent) (es : List RxEvent) :
    s.rxEvents (e :: es) = (s.rxEvent e).rxEvents es := rfl

/-- A discarded frame raises the discard count alone, at most to 65,535 (R181). -/
theorem State.rxEvent_discard (s : State) :
    s.rxEvent .discard = { s with link := { s.link with discards := min 65535 (s.link.discards + 1) } } := rfl

/-- An event report changes the report queue and the lost-report flag alone, and the queue holds at most 32 (R185). -/
theorem Link.queueEvent_eq (l : Link) (c : Cycle) (kind : EventKind) (fields : List Int) :
    l.queueEvent c kind fields =
      { l with
        reports := if l.reports.length < 32 then l.reports ++ [⟨c, 1, 1, .event kind fields⟩] else l.reports
        lostFlag := if l.reports.length < 32 then l.lostFlag else true } := by
  unfold Link.queueEvent; split <;> rfl

theorem Link.queueEvent_length {l : Link} (h : l.reports.length ≤ 32) (c : Cycle) (kind : EventKind) (fields : List Int) :
    (l.queueEvent c kind fields).reports.length ≤ 32 := by
  unfold Link.queueEvent; split
  · simp only [List.length_append, List.length_cons, List.length_nil]; omega
  · exact h

end Sys2Proof.Machine
end

