-- ==== Sys2Proof/Laws/Ops.lean ====
section
/-!
SUPPORT. The shared operations on stands, said once: each as one replaced stand record and, where it reports, one queued
report; and the tests that requests make, as propositions.
-/

namespace Sys2Proof.Machine

/-! ### Replaced stands -/

theorem PerStand.set_set {α : Type} (p : PerStand α) (k : Nat) (x y : α) : (p.set k x).set k y = p.set k y := by
  by_cases h : 1 ≤ k ∧ k ≤ 7
  · obtain rfl | rfl | rfl | rfl | rfl | rfl | rfl := stand_cases h.1 h.2 <;> rfl
  · have e : ∀ (q : PerStand α) (z : α), q.set k z = q := by
      intro q z; unfold PerStand.set; split <;> first | rfl | omega
    rw [e, e, e]

theorem State.putStand_putStand (s : State) (k : Nat) (x y : Stand) : (s.putStand k x).putStand k y = s.putStand k y := by
  simp only [State.putStand, PerStand.set_set]

theorem State.putStand_self (s : State) (k : Nat) : s.putStand k (s.stand k) = s := by
  simp only [State.putStand, State.stand, PerStand.set_get]

theorem State.mapStand_eq (s : State) (k : Nat) (f : Stand → Stand) : s.mapStand k f = s.putStand k (f (s.stand k)) := rfl

theorem State.stand_report (s : State) (k : Nat) (kind : EventKind) (fields : List Int) :
    (s.report kind fields).stand k = s.stand k := rfl

theorem State.putStand_report (s : State) (k : Nat) (st : Stand) (kind : EventKind) (fields : List Int) :
    (s.report kind fields).putStand k st = (s.putStand k st).report kind fields := rfl

/-! ### Changes of state (R58) -/

theorem State.changeState_eq (s : State) (k : Nat) (new : StandState) (why : Reason) :
    s.changeState k new why =
      (s.putStand k { s.stand k with sc := { (s.stand k).sc with state := new } }).report .standState
        [(k : Int), (s.stand k).sc.state.code, new.code, why.code, natField (s.stand k).sc.served] := rfl

theorem State.park_eq (s : State) {k : Nat} (h1 : 1 ≤ k) (h7 : k ≤ 7) (why : Reason) :
    s.park k why =
      (s.putStand k { s.stand k with
        sc := { (s.stand k).sc with state := .parked, armGap := none, armSpeed := none } }).report .standState
        [(k : Int), (s.stand k).sc.state.code, 0, why.code, natField (s.stand k).sc.served] := by
  simp only [State.park, State.mapSc_eq, State.changeState_eq, State.stand_report, State.stand_putStand_same _ h1 h7,
    State.putStand_report, State.putStand_putStand, StandState.code]

theorem State.position_eq (s : State) {k : Nat} (h1 : 1 ≤ k) (h7 : k ≤ 7) (why : Reason) :
    s.position k why =
      (s.putStand k { s.stand k with sc := { (s.stand k).sc with state := .positioning, posRun := 0 } }).report .standState
        [(k : Int), (s.stand k).sc.state.code, 2, why.code, natField (s.stand k).sc.served] := by
  simp only [State.position, State.mapSc_eq, State.changeState_eq, State.stand_report, State.stand_putStand_same _ h1 h7,
    State.putStand_report, State.putStand_putStand, StandState.code]

theorem State.unserve_eq (s : State) (k : Nat) :
    s.unserve k = s.putStand k { s.stand k with
      sc := { (s.stand k).sc with served := none }, gcu := { (s.stand k).gcu with iacc := 0 } } := rfl

theorem State.leaveThreading_eq (s : State) {k : Nat} (h1 : 1 ≤ k) (h7 : k ≤ 7) (why : Reason) :
    s.leaveThreading k why =
      (s.putStand k { s.stand k with
        sc := { (s.stand k).sc with state := .rolling, firstSign := .nothing } }).report .standState
        [(k : Int), (s.stand k).sc.state.code, 5, why.code, natField (s.stand k).sc.served] := by
  simp only [State.leaveThreading, State.mapSc_eq, State.changeState_eq, State.stand_report,
    State.stand_putStand_same _ h1 h7, State.putStand_report, State.putStand_putStand, StandState.code]

theorem State.armStand_eq (s : State) {k : Nat} (h1 : 1 ≤ k) (h7 : k ≤ 7) :
    s.armStand k =
      (s.putStand k { s.stand k with sc := { (s.stand k).sc with
        state := .positioning, posRun := 0, followRun := .zero, runawayRun := .zero
        armGap := some (clampTo (s.stand k).sc.sMin (s.stand k).sc.sMax (s.stand k).chans.gap.value)
        armSpeed := some (clampTo 0 25000 (s.stand k).chans.speed.value) } }).report .standState
        [(k : Int), (s.stand k).sc.state.code, 2, 0, natField (s.stand k).sc.served] := by
  simp only [State.armStand, State.mapSc_eq, State.changeState_eq, State.stand_report, State.stand_putStand_same _ h1 h7,
    State.putStand_report, State.putStand_putStand, StandState.code, Reason.code]

theorem State.startCalibration_eq (s : State) {k : Nat} (h1 : 1 ≤ k) (h7 : k ≤ 7) (kiss rate : Int) :
    s.startCalibration k kiss rate =
      (s.putStand k { s.stand k with
        sc := { (s.stand k).sc with
          state := .calibrating
          armGap := some (clampTo (s.stand k).sc.sMin (s.stand k).sc.sMax (s.stand k).chans.gap.value) }
        cal := { Cal.reset with
          phase := .closing, kissForce := kiss, closeRate := rate
          startGap := clampTo (s.stand k).sc.sMin (s.stand k).sc.sMax (s.stand k).chans.gap.value
          oldZero := (s.stand k).gcu.zero } }).report .standState
        [(k : Int), (s.stand k).sc.state.code, 1, 13, natField (s.stand k).sc.served] := by
  simp only [State.startCalibration, State.mapStand_eq, State.changeState_eq, State.stand_report,
    State.stand_putStand_same _ h1 h7, State.putStand_report, State.putStand_putStand, StandState.code, Reason.code]

theorem State.clearStand_eq (s : State) {k : Nat} (h1 : 1 ≤ k) (h7 : k ≤ 7) :
    s.clearStand k =
      (s.putStand k { s.stand k with
        trip := .clear
        sc := { (s.stand k).sc with state := .parked, armGap := none, armSpeed := none, served := none }
        gcu := { (s.stand k).gcu with iacc := 0 } }).report .standState
        [(k : Int), (s.stand k).sc.state.code, 0, 12, natField (s.stand k).sc.served] := by
  simp only [State.clearStand, State.unserve_eq, State.park_eq _ h1 h7, State.mapStand_eq, State.stand_report,
    State.stand_putStand_same _ h1 h7, State.putStand_report, State.putStand_putStand, Reason.code]

/-! ### Requests -/

/-- A request command on a ready link: the request taken, and its reply in the slot (R182). -/
theorem exec_answered {c : Instr} {tag : Byte} {req : Req} {s : State} (h : c.request? = some (tag, req)) (r : s.ready) :
    exec c s = .next ((s.take req).1.replied (reqKind req) tag (s.take req).2.1 (s.take req).2.2) := by
  rw [exec_request h, State.request_ready r]

theorem State.isStand_iff {s : State} {k : Nat} : s.isStand k = true ↔ 1 ≤ k ∧ k ≤ s.conf.n := by simp [State.isStand]

theorem State.isStand_false {s : State} {k : Nat} : s.isStand k = false ↔ k = 0 ∨ s.conf.n < k := by
  simp only [State.isStand, decide_eq_false_iff_not]; omega

theorem State.busySlot_iff {s : State} {n : Nat} : s.busySlot n = true ↔ ∃ op, s.store.op = some op ∧ op.slot = n := by
  unfold State.busySlot
  cases s.store.op with
  | none => simp
  | some op => simp

theorem State.trainIdle_iff {s : State} :
    s.trainIdle = true ↔ s.track.bars = [] ∧ ∀ k, 1 ≤ k → k ≤ 7 → k ≤ s.conf.n →
      (s.stand k).sc.state = .parked ∨ (s.stand k).sc.state = .tripped := by
  simp only [State.trainIdle, Bool.and_eq_true, List.all_eq_true, mem_standsTo, decide_eq_true_eq, List.isEmpty_iff]
  constructor
  · rintro ⟨h1, h2⟩; exact ⟨h2, fun k a b c => h1 k ⟨a, b, c⟩⟩
  · rintro ⟨h1, h2⟩; exact ⟨fun k h => h2 k h.1 h.2.1 h.2.2, h1⟩

theorem State.inUse_iff {s : State} {n : Nat} :
    s.inUse n = true ↔
      (n < 32 ∧ ((∃ x, s.images.staged = some x ∧ x.slot = n) ∨ (∃ x, s.images.copy0 = some x ∧ x.slot = n)
        ∨ ∃ x, s.images.copy1 = some x ∧ x.slot = n))
      ∨ (32 ≤ n ∧ ∃ k, 1 ≤ k ∧ k ≤ 7 ∧ k ≤ s.conf.n ∧ (s.conf.stands.get k).curveSlot + 32 = (n : Int)
        ∧ (s.stand k).sc.state ≠ .parked ∧ (s.stand k).sc.state ≠ .tripped) := by
  unfold State.inUse
  by_cases h : n < 32
  · simp only [h, if_true, Images.names, Bool.or_eq_true, beq_iff_eq, Option.map_eq_some_iff, true_and, or_assoc]
    constructor
    · rintro (h' | h' | h')
      · exact Or.inl h'
      · exact Or.inr (Or.inl h')
      · exact Or.inr (Or.inr (Or.inl h'))
    · rintro (h' | h' | h' | ⟨h', -⟩)
      · exact Or.inl h'
      · exact Or.inr (Or.inl h')
      · exact Or.inr (Or.inr h')
      · exact absurd h (Nat.not_lt.2 h')
  · simp only [h, if_false, List.any_eq_true, mem_standsTo, Bool.and_eq_true, decide_eq_true_eq, false_and, false_or]
    constructor
    · rintro ⟨k, ⟨a, b, c⟩, d, e, f⟩; exact ⟨by omega, k, a, b, c, d, e, f⟩
    · rintro ⟨-, k, a, b, c, d, e, f⟩; exact ⟨k, ⟨a, b, c⟩, d, e, f⟩

theorem State.sourceActive_iff {s : State} {id : SourceId} :
    s.sourceActive id = true ↔ match id.kind.line with
      | some i => (s.estops.get i).active = true
      | none => id.kind = .measurementLost ∧ ∃ j, id.index = some j ∧ (s.stand j).lostSrc = true := by
  unfold State.sourceActive
  cases id.kind.line with
  | some i => rfl
  | none => cases id.index <;> simp

/-! ### Stands that a change of N adds (R6, R32, R85) -/

/-- A stand added again in the cycle in which it was removed is the removed one, with its zero not known and no curve. -/
theorem Stand.added_again (c : StandConf) (st : Stand) :
    Stand.added c st true = { st.removed with gcu := { st.removed.gcu with zero := 0, zeroKnown := false, curve := none } } := rfl

theorem Stand.added_new (c : StandConf) (st : Stand) : Stand.added c st false = .unused c := rfl

@[simp] theorem Stand.enter_chans (st : Stand) (c : StandConf) (z : Int × Bool) : (st.enter c z).chans = .reset true := rfl
@[simp] theorem Stand.enter_scu (st : Stand) (c : StandConf) (z : Int × Bool) : (st.enter c z).scu = .reset := rfl
@[simp] theorem Stand.enter_trip (st : Stand) (c : StandConf) (z : Int × Bool) : (st.enter c z).trip = st.trip := rfl
@[simp] theorem Stand.enter_cal (st : Stand) (c : StandConf) (z : Int × Bool) : (st.enter c z).cal = st.cal := rfl
@[simp] theorem Stand.enter_lostSrc (st : Stand) (c : StandConf) (z : Int × Bool) : (st.enter c z).lostSrc = false := rfl

theorem Stand.enter_sc (st : Stand) (c : StandConf) (z : Int × Bool) :
    (st.enter c z).sc = { StandRec.reset st.sc.state c with
      served := st.sc.served, target := st.sc.target, armGap := st.sc.armGap, armSpeed := st.sc.armSpeed } := rfl

theorem Stand.enter_gcu (st : Stand) (c : StandConf) (z : Int × Bool) :
    (st.enter c z).gcu = { Gcu.reset z.1 z.2 with curve := st.gcu.curve, pendingTune := st.gcu.pendingTune } := rfl

theorem State.liveTune_of_le {s : State} {k : Nat} (h : k ≤ s.lowN) : s.liveTune k = (s.stand k).gcu.live := if_pos h

theorem State.liveTune_of_lt {s : State} {k : Nat} (h : s.lowN < k) : s.liveTune k = .empty := if_neg (by omega)

theorem Code.clampedIf_true : Code.clampedIf true = .clamped := rfl
theorem Code.clampedIf_false : Code.clampedIf false = .ok := rfl

end Sys2Proof.Machine
end

