-- ==== Sys2Proof/Laws/Frame.lean ====
section
/-!
SUPPORT. What the operations of the trip unit, the tracker and the changes of state leave alone, said once: two states have
the same `still` part when they differ only in what those operations may change.
-/

namespace Sys2Proof.Machine

/-! ### The part left alone -/

/-- A stand with everything blanked that a trip, a change of state, a target or a tracker event may change. -/
def Stand.still (st : Stand) : Stand :=
  { st with
    sc := { st.sc with
      state := .parked, target := .nothing, served := none, posRun := 0, threadCount := 0, firstSign := .nothing
      nMask := 0, threadLimit := 0, followRun := .zero, runawayRun := .zero, armGap := none, armSpeed := none }
    gcu := { st.gcu with iacc := 0, monitor := 0 }
    cal := .reset
    trip := .clear }

/-- A state with everything blanked that a trip, a change of state, a target or a tracker event may change. -/
def State.still (s : State) : State :=
  { s with
    tb := { s.tb with deadlineDone := false, updateDone := false, endTests := false }
    stands := s.stands.mapIdx (fun _ st => st.still)
    track := .reset
    trips := ⟨[], 1, s.trips.host⟩
    images := .reset
    store := { s.store with slots := [], faults := 0 }
    trace := { s.trace with triggers := [] }
    link := { s.link with reports := [], lostFlag := false } }

/-! ### Updates that leave it alone -/

theorem PerStand.mapIdx_set {α β : Type} (f : α → β) (p : PerStand α) (k : Nat) (x : α) :
    (p.set k x).mapIdx (fun _ y => f y) = (p.mapIdx (fun _ y => f y)).set k (f x) := by
  by_cases h : 1 ≤ k ∧ k ≤ 7
  · obtain rfl | rfl | rfl | rfl | rfl | rfl | rfl := stand_cases h.1 h.2 <;> rfl
  · have e : ∀ {γ : Type} (q : PerStand γ) (z : γ), q.set k z = q := by
      intro γ q z; unfold PerStand.set; split <;> first | rfl | omega
    rw [e, e]

theorem PerStand.set_get_of {α : Type} (p : PerStand α) (k : Nat) (x : α) (h : x = p.get k) : p.set k x = p := by
  rw [h, PerStand.set_get]

theorem PerStand.get_map {α β : Type} (f : α → β) (p : PerStand α) (k : Nat) :
    (p.mapIdx (fun _ y => f y)).get k = f (p.get k) := by
  unfold PerStand.get; split <;> rfl

theorem State.still_mapStand (s : State) (k : Nat) (f : Stand → Stand) (h : (f (s.stand k)).still = (s.stand k).still) :
    (s.mapStand k f).still = s.still := by
  have e : (s.stands.set k (f (s.stands.get k))).mapIdx (fun _ st => st.still) = s.stands.mapIdx (fun _ st => st.still) := by
    rw [PerStand.mapIdx_set, PerStand.set_get_of]
    rw [PerStand.get_map]; exact h
  simp only [State.still, State.mapStand, e]

theorem State.still_mapSc (s : State) (k : Nat) (f : StandRec → StandRec)
    (h : ∀ st : Stand, ({ st with sc := f st.sc } : Stand).still = st.still) : (s.mapSc k f).still = s.still :=
  s.still_mapStand k _ (h _)

@[simp] theorem State.still_mapTrack (s : State) (f : Tracker → Tracker) : (s.mapTrack f).still = s.still := rfl
@[simp] theorem State.still_report (s : State) (kind : EventKind) (fields : List Int) : (s.report kind fields).still = s.still := by
  simp only [State.still, State.report, State.reportAt, State.mapLink, Link.queueEvent]; split <;> rfl
@[simp] theorem State.still_trigger (s : State) (t : Trigger) : (s.trigger t).still = s.still := rfl
@[simp] theorem State.still_setSlot (s : State) (n : Nat) (r : SlotRec) :
    (s.mapStore (fun st => st.setSlot n r)).still = s.still := rfl

/-- A fold of steps that leave it alone leaves it alone. -/
theorem State.still_foldl {α : Type} (f : State → α → State) (hf : ∀ s a, (f s a).still = s.still) (l : List α) (s : State) :
    (l.foldl f s).still = s.still := by
  induction l generalizing s with
  | nil => rfl
  | cons a l ih => exact (ih _).trans (hf s a)

theorem State.still_foldl_fst {α β : Type} (f : State × β → α → State × β) (hf : ∀ p a, (f p a).1.still = p.1.still)
    (l : List α) (p : State × β) : (l.foldl f p).1.still = p.1.still := by
  induction l generalizing p with
  | nil => rfl
  | cons a l ih => exact (ih _).trans (hf p a)

theorem State.still_forStands (n : Nat) (f : Nat → State → State) (hf : ∀ k s, (f k s).still = s.still) (s : State) :
    (s.forStands n f).still = s.still := State.still_foldl (fun t k => f k t) (fun s k => hf k s) _ s

/-! ### Changes of state and targets -/

@[simp] theorem State.still_changeState (s : State) (k : Nat) (new : StandState) (why : Reason) :
    (s.changeState k new why).still = s.still := by
  simp only [State.changeState, State.still_report]; exact State.still_mapSc _ _ _ (fun _ => rfl)

@[simp] theorem State.still_park (s : State) (k : Nat) (why : Reason) : (s.park k why).still = s.still := by
  unfold State.park; rw [State.still_mapSc _ _ _ (fun _ => rfl), State.still_changeState]

@[simp] theorem State.still_position (s : State) (k : Nat) (why : Reason) : (s.position k why).still = s.still := by
  unfold State.position; rw [State.still_mapSc _ _ _ (fun _ => rfl), State.still_changeState]

@[simp] theorem State.still_unserve (s : State) (k : Nat) : (s.unserve k).still = s.still :=
  s.still_mapStand k _ rfl

@[simp] theorem State.still_leaveThreading (s : State) (k : Nat) (why : Reason) : (s.leaveThreading k why).still = s.still := by
  unfold State.leaveThreading; rw [State.still_mapSc _ _ _ (fun _ => rfl), State.still_changeState]

@[simp] theorem State.still_retargetStand (old : State) (re : Bool) (k : Nat) (s : State) :
    (State.retargetStand old re k s).still = s.still := by
  have m : ∀ (s : State) (t : Target), (s.mapSc k (fun r => { r with target := t })).still = s.still :=
    fun s t => State.still_mapSc _ _ _ (fun _ => rfl)
  unfold State.retargetStand
  dsimp only
  split
  · rfl
  · split
    · split
      · rw [State.still_park, m]
      · rw [State.still_mapSc _ _ _ (fun _ => rfl), m]
    · split
      · rw [State.still_park, m]
      · split
        · exact m _ _
        · rw [State.still_position, m]
    · exact m _ _

@[simp] theorem State.still_retarget (s old : State) (re : Bool) : (s.retarget old re).still = s.still :=
  State.still_forStands _ _ (fun k s => State.still_retargetStand old re k s) s

@[simp] theorem State.still_settleDamage (s : State) (n : Nat) : (s.settleDamage n).still = s.still := by
  unfold State.settleDamage; dsimp only; split <;> rfl

@[simp] theorem State.still_dropBar (s : State) (b : Bar) : (s.dropBar b).still = s.still := by
  unfold State.dropBar; dsimp only; split
  · rw [State.still_settleDamage]; rfl
  · rfl

@[simp] theorem State.still_removeBar (s : State) (b : Bar) : (s.removeBar b).still = s.still := by
  unfold State.removeBar; rw [State.still_retarget, State.still_dropBar]

@[simp] theorem State.still_unserveGone (s : State) (k : Nat) : (s.unserveGone k).still = s.still := by
  unfold State.unserveGone; split
  · split
    · exact State.still_unserve _ _
    · rfl
  · rfl

/-! ### Trips -/

@[simp] theorem State.still_tripCalibration (s : State) (k : Nat) : (s.tripCalibration k).still = s.still := by
  unfold State.tripCalibration; dsimp only; split
  · rfl
  · rw [State.still_report]; exact s.still_mapStand k _ rfl

@[simp] theorem State.still_moveToTripped (s : State) (k : Nat) : (s.moveToTripped k).still = s.still := by
  unfold State.moveToTripped; dsimp only
  rw [State.still_tripCalibration, State.still_mapStand _ _ _ rfl, State.still_changeState]

@[simp] theorem State.still_giveAction (s : State) (src : Source) (k : Nat) (a : Action) :
    (s.giveAction src k a).still = s.still := by
  unfold State.giveAction; dsimp only; split
  · rw [State.still_moveToTripped, State.still_mapStand _ _ _ rfl]
  · rw [State.still_mapStand _ _ _ rfl]

@[simp] theorem State.still_addRecord (s : State) (src : Source) (l : List Affected) : (s.addRecord src l).still = s.still := by
  unfold State.addRecord; dsimp only
  rw [State.still_foldl _ (fun s k => State.still_trigger s _), State.still_trigger, State.still_report]; rfl

@[simp] theorem State.still_abandonBar (s : State) (id : Nat) : (s.abandonBar id).1.still = s.still := by
  unfold State.abandonBar; split
  · rfl
  · dsimp only
    rw [State.still_forStands _ _ (fun k s => State.still_unserveGone s k), State.still_removeBar]

@[simp] theorem State.still_applySource (s : State) (src : Source) (fresh : Bool) :
    (s.applySource src fresh).1.still = s.still := by
  unfold State.applySource
  dsimp only
  refine (State.still_foldl_fst _ (fun p id => ?_) _ _).trans ?_
  · exact State.still_abandonBar p.1 id
  split <;>
    simp only [State.still_addRecord,
      State.still_forStands _ _ (fun k s => State.still_unserveGone s k),
      State.still_foldl _ (fun s (p : Nat × Action) => State.still_giveAction s src p.1 p.2)]

@[simp] theorem State.still_applyAll (n : Nat) (l : List (Source × Bool)) (s : State) :
    (State.applyAll n l s).still = s.still := by
  induction n generalizing l s with
  | zero => rfl
  | succ n ih =>
    cases l with
    | nil => rfl
    | cons p l =>
      obtain ⟨src, fresh⟩ := p
      simp only [State.applyAll]
      rw [ih, State.still_applySource]

@[simp] theorem State.still_applySources (s : State) (l : List (Source × Bool)) : (s.applySources l).still = s.still :=
  State.still_applyAll _ _ _

@[simp] theorem State.still_applyEvents (s : State) (l : List Source) : (s.applyEvents l).still = s.still :=
  State.still_applyAll _ _ _

/-! ### The tracker -/

@[simp] theorem State.still_mapBar (s : State) (id : Nat) (f : Bar → Bar) : (s.mapBar id f).still = s.still := rfl
@[simp] theorem State.still_birth (s : State) (bar : Nat) (kind : SegKind) (d : Int) : (s.birth bar kind d).still = s.still := rfl
@[simp] theorem State.still_advance (s : State) : s.advance.still = s.still := rfl
@[simp] theorem State.still_crossing (s : State) : s.crossing.still = s.still := rfl

@[simp] theorem State.still_monitorUpdate (s : State) (k : Nat) (a b : Int) (bar : Nat) :
    (s.monitorUpdate k a b bar).still = s.still := s.still_mapStand k _ rfl

@[simp] theorem State.still_passGauges (s : State) (seq : Nat) (old : Nat × Int) : (s.passGauges seq old).still = s.still := by
  unfold State.passGauges
  refine State.still_foldl _ (fun s g => ?_) _ s
  dsimp only
  split
  · rfl
  · split
    · split
      · rw [State.still_monitorUpdate]; rfl
      · rfl
    · rfl

@[simp] theorem State.still_passAll (s : State) (l : List Seg) : (s.passAll l).still = s.still :=
  State.still_foldl _ (fun s (x : Seg) => State.still_passGauges s x.seq x.pos) l s

theorem State.still_releaseStand (s : State) (k id : Nat) : (s.releaseStand k id).1.still = s.still := by
  unfold State.releaseStand
  dsimp only
  split
  · rfl
  · split
    · dsimp only; rw [State.still_unserve]; split <;> simp only [State.still_park, State.still_position]
    · dsimp only; rw [State.still_unserve]; split <;> simp only [State.still_park, State.still_position]
    · dsimp only; rw [State.still_unserve]; split <;> simp only [State.still_park, State.still_position]
    · exact State.still_unserve _ _
    · rfl

theorem State.still_releaseBar (s : State) (b : Bar) : (s.releaseBar b).1.still = s.still := by
  unfold State.releaseBar
  dsimp only
  rw [State.still_foldl_fst]
  on_goal 2 => exact fun p k => State.still_releaseStand p.1 k b.id
  exact State.still_removeBar s b

@[simp] theorem State.still_release (s : State) : s.release.1.still = s.still := by
  unfold State.release
  dsimp only
  rw [State.still_foldl_fst]
  · rfl
  · intro p x
    split
    · split
      · exact State.still_releaseBar _ _
      · rfl
    · rfl

@[simp] theorem State.still_trackFull (s : State) (b : Bar) : (s.trackFull b).still = s.still := by
  unfold State.trackFull; split
  · rfl
  · rw [State.still_report, State.still_mapBar]

@[simp] theorem State.still_bodyBirths (n : Nat) (s : State) : (State.bodyBirths n s).still = s.still := by
  induction n generalizing s with
  | zero => rfl
  | succ n ih =>
    unfold State.bodyBirths
    split
    · rfl
    · split
      · rfl
      · dsimp only
        split
        · split
          · rw [ih]; rfl
          · rw [State.still_mapBar, State.still_trackFull]
        · split
          · rw [ih]; rfl
          · rfl

@[simp] theorem State.still_headAtStand (s : State) (k bar seq : Nat) (c : Option Int) :
    (s.headAtStand k bar seq c).still = s.still := by
  unfold State.headAtStand; rw [State.still_trigger, State.still_report]

@[simp] theorem State.still_tailAtStand (s : State) (k bar seq : Nat) (old : Nat × Int) (d : Nat) (late : Bool) :
    (s.tailAtStand k bar seq old d late).still = s.still := by
  unfold State.tailAtStand; rw [State.still_trigger, State.still_report]

@[simp] theorem State.still_tailMismatch (s : State) (k bar : Nat) (pos : Nat × Int) :
    (s.tailMismatch k bar pos).still = s.still := State.still_report _ _ _

@[simp] theorem State.still_declareMissed (s : State) : s.declareMissed.1.still = s.still := by
  unfold State.declareMissed
  exact State.still_foldl _ (fun s (x : Seg) => State.still_mapBar s x.bar _) _ s

theorem State.still_testTailout (k : Nat) (s : State) : (State.testTailout k s).still = s.still := by
  unfold State.testTailout
  dsimp only
  split
  · rw [State.still_unserve]; split <;> simp only [State.still_park, State.still_position]
  · rfl

@[simp] theorem State.still_endTests (s : State) : s.endTests.still = s.still := by
  unfold State.endTests
  split
  · rfl
  · exact (rfl : State.still _ = State.still _).trans (State.still_forStands _ _ State.still_testTailout s)

@[simp] theorem State.still_trackerUpdate (s : State) : s.trackerUpdate.still = s.still := by
  unfold State.trackerUpdate
  dsimp only
  rw [State.still_applyEvents, State.still_endTests, State.still_declareMissed]
  refine (rfl : _ = State.still (State.bodyBirths 257 (s.advance.crossing.passAll s.track.segs).release.1)).trans ?_
  rw [State.still_bodyBirths, State.still_release, State.still_passAll, State.still_crossing, State.still_advance]

theorem State.still_giveTail (s : State) (b : Bar) : (s.giveTail b).1.still = s.still := by
  unfold State.giveTail
  split
  · rfl
  · split
    · rfl
    · dsimp only
      split
      · rw [State.still_retarget]; exact (rfl : State.still _ = State.still _).trans (State.still_trackFull s b)
      · exact (rfl : State.still _ = State.still _).trans (State.still_trackFull s b)

theorem State.still_tailAtOne (s : State) (b : Bar) : (s.tailAtOne b).1.still = s.still := by
  unfold State.tailAtOne; dsimp only; rw [State.still_tailAtStand, State.still_giveTail]

@[simp] theorem State.still_thread (s : State) (k bar : Nat) : (s.thread k bar).still = s.still := by
  unfold State.thread; dsimp only
  rw [State.still_mapStand _ _ _ rfl, State.still_changeState, State.still_mapSc _ _ _ (fun _ => rfl)]

@[simp] theorem State.still_createBar (s : State) (x : Staged) : (s.createBar x).still = s.still := by
  unfold State.createBar; dsimp only
  rw [State.still_retarget, State.still_headAtStand, State.still_thread, State.still_birth, State.still_mapTrack]; rfl

@[simp] theorem State.still_oldTail (s : State) : s.oldTail.still = s.still := by
  unfold State.oldTail; split
  · dsimp only; rw [State.still_tailMismatch, State.still_tailAtOne]
  · rfl

@[simp] theorem State.still_headBirth (s : State) : s.headBirth.1.still = s.still := by
  unfold State.headBirth; dsimp only; split
  · split
    · dsimp only; rw [State.still_createBar, State.still_oldTail]
    · exact State.still_oldTail s
  · exact State.still_oldTail s

@[simp] theorem State.still_headArrives (s : State) (k : Nat) : (s.headArrives k).1.still = s.still := by
  unfold State.headArrives; split
  · dsimp only
    rw [State.still_retarget, State.still_headAtStand, State.still_thread, State.still_mapBar]
    unfold State.headSnap; dsimp only; rw [State.still_passAll]; rfl
  · rfl

@[simp] theorem State.still_tailLeaves (s : State) (k : Nat) : (s.tailLeaves k).1.still = s.still := by
  have out : ∀ t : State, (t.changeState k .tailout .tailOut).still = t.still :=
    fun t => State.still_changeState _ _ _ _
  unfold State.tailLeaves; dsimp only; split
  · rfl
  · split
    · split
      · dsimp only; rw [out, State.still_tailAtOne]
      · rfl
    · split
      · dsimp only; rw [out, State.still_tailAtStand]
        unfold State.tailSnap; dsimp only; rw [State.still_passGauges]; rfl
      · dsimp only; rw [out, State.still_tailMismatch, State.still_tailAtStand]
      · rfl

@[simp] theorem State.still_loadEffect (s : State) (h : LoadChange) : (s.loadEffect h).1.still = s.still := by
  unfold State.loadEffect; split <;> first
    | rfl
    | exact State.still_tailLeaves _ _
    | (split
       · exact State.still_headBirth _
       · exact State.still_headArrives _ _)

@[simp] theorem State.still_testThreading (k : Nat) (s : State) : (State.testThreading k s).still = s.still := by
  have m : ∀ (s : State) (x : Sign), (s.mapSc k (fun r => { r with firstSign := x })).still = s.still :=
    fun s x => State.still_mapSc _ _ _ (fun _ => rfl)
  unfold State.testThreading; dsimp only; split
  · split
    · exact State.still_leaveThreading _ _ _
    · split
      · rw [State.still_report, State.still_leaveThreading]; split
        · exact m _ _
        · rfl
      · split
        · exact m _ _
        · rfl
  · rfl

@[simp] theorem State.still_judgeHeld (s : State) (h : LoadChange) : (s.judgeHeld h).still = s.still := by
  unfold State.judgeHeld; dsimp only
  rw [State.still_applyEvents, State.still_endTests, State.still_declareMissed]
  split
  · rw [State.still_loadEffect]; rfl
  · rw [State.still_testThreading, State.still_loadEffect]; rfl

@[simp] theorem State.still_judge (s : State) (k : Nat) : (s.judge k).still = s.still := by
  unfold State.judge; split
  · split
    · exact State.still_judgeHeld _ _
    · rfl
  · rfl

/-! ### Reading single fields off -/

theorem State.still_fields {s t : State} (h : t.still = s.still) :
    t.pending = s.pending ∧ t.conf = s.conf ∧ t.force = s.force ∧ t.estops = s.estops ∧ t.gauges = s.gauges
      ∧ t.fresh = s.fresh ∧ t.trips.host = s.trips.host ∧ t.store.cells = s.store.cells ∧ t.store.op = s.store.op
      ∧ t.store.mark = s.store.mark ∧ t.trace.mem = s.trace.mem ∧ t.trace.chans = s.trace.chans := by
  have e : ∀ {α : Type} (f : State → α), f t.still = f s.still := fun f => by rw [h]
  exact ⟨e State.pending, e State.conf, e State.force, e State.estops, e State.gauges, e State.fresh,
    e (fun x => x.trips.host), e (fun x => x.store.cells), e (fun x => x.store.op), e (fun x => x.store.mark),
    e (fun x => x.trace.mem), e (fun x => x.trace.chans)⟩

theorem State.still_tb {s t : State} (h : t.still = s.still) :
    { t.tb with deadlineDone := false, updateDone := false, endTests := false }
      = { s.tb with deadlineDone := false, updateDone := false, endTests := false } :=
  congrArg State.tb h

theorem State.still_link {s t : State} (h : t.still = s.still) :
    { t.link with reports := [], lostFlag := false } = { s.link with reports := [], lostFlag := false } :=
  congrArg State.link h

theorem State.still_stand {s t : State} (h : t.still = s.still) (k : Nat) : (t.stand k).still = (s.stand k).still := by
  have e := congrArg (fun x : State => x.stands.get k) h
  simpa only [State.still, PerStand.get_map, State.stand] using e

end Sys2Proof.Machine
end

