-- ==== Sys2Proof/Laws/Memory.lean ====
section
/-!
SUPPORT. The sparse memories: a read after a write, the places a write leaves alone, and the canonical form, which every
memory operation keeps (R153, R169).
-/

namespace Sys2Proof.Machine

variable {α : Type} [DecidableEq α]

/-! ### The canonical form -/

/-- The canonical form as a proposition: addresses strictly rising, no value equal to the default. -/
theorem Memory.wf_iff {d : α} {m : Cells α} :
    Memory.wf d m = true ↔ (m.map Prod.fst).Pairwise (· < ·) ∧ ∀ c ∈ m, c.2 ≠ d := by
  have rising : ∀ (a : Nat) (m : Cells α), Memory.risingFrom a m = true ↔ (a :: m.map Prod.fst).Pairwise (· < ·) := by
    intro a m
    induction m generalizing a with
    | nil => simp [Memory.risingFrom]
    | cons c m ih =>
      obtain ⟨b, v⟩ := c
      simp only [Memory.risingFrom, Bool.and_eq_true, decide_eq_true_eq, ih, List.map_cons]
      constructor
      · rintro ⟨hab, h⟩
        refine List.pairwise_cons.2 ⟨?_, h⟩
        intro x hx
        rcases List.mem_cons.1 hx with rfl | hx
        · exact hab
        · exact lt_trans hab ((List.pairwise_cons.1 h).1 x hx)
      · intro h
        exact ⟨(List.pairwise_cons.1 h).1 b (by simp), (List.pairwise_cons.1 h).2⟩
  cases m with
  | nil => simp [Memory.wf]
  | cons c m =>
    obtain ⟨b, v⟩ := c
    simp only [Memory.wf, Bool.and_eq_true, rising, List.all_eq_true, decide_eq_true_eq, List.map_cons]

/-- Taking places out of a memory keeps the canonical form. -/
theorem Memory.wf_sublist {d : α} {l m : Cells α} (h : l.Sublist m) (hm : Memory.wf d m = true) : Memory.wf d l = true := by
  rw [Memory.wf_iff] at hm ⊢
  exact ⟨hm.1.sublist (h.map _), fun c hc => hm.2 c (h.subset hc)⟩

theorem Memory.wf_filter {d : α} {m : Cells α} (p : Nat × α → Bool) (hm : Memory.wf d m = true) :
    Memory.wf d (m.filter p) = true := Memory.wf_sublist List.filter_sublist hm

/-- The addresses a write leaves listed are old ones or its own. -/
theorem Memory.mem_write {d : α} {m : Cells α} {a : Nat} {x : α} {c : Nat × α} (h : c ∈ Memory.write d m a x) :
    c ∈ m ∨ (c = (a, x) ∧ x ≠ d) := by
  induction m with
  | nil =>
    simp only [Memory.write] at h
    split at h
    · simp at h
    · exact .inr ⟨by simpa using h, ‹_›⟩
  | cons e m ih =>
    obtain ⟨b, v⟩ := e
    simp only [Memory.write] at h
    split at h
    · split at h
      · exact .inl (List.mem_cons_of_mem _ h)
      · rcases List.mem_cons.1 h with rfl | h
        · exact .inr ⟨rfl, ‹_›⟩
        · exact .inl (List.mem_cons_of_mem _ h)
    · split at h
      · split at h
        · exact .inl h
        · rcases List.mem_cons.1 h with rfl | h
          · exact .inr ⟨rfl, ‹_›⟩
          · exact .inl h
      · rcases List.mem_cons.1 h with rfl | h
        · exact .inl (by simp)
        · rcases ih h with h | h
          · exact .inl (List.mem_cons_of_mem _ h)
          · exact .inr h

/-- A write keeps the canonical form. -/
theorem Memory.wf_write {d : α} {m : Cells α} (hm : Memory.wf d m = true) (a : Nat) (x : α) :
    Memory.wf d (Memory.write d m a x) = true := by
  induction m with
  | nil =>
    simp only [Memory.write]
    split
    · rfl
    · simp [Memory.wf, Memory.risingFrom, *]
  | cons e m ih =>
    obtain ⟨b, v⟩ := e
    have hm' := Memory.wf_iff.1 hm
    have hp := List.pairwise_cons.1 hm'.1
    have ht : Memory.wf d m = true := Memory.wf_sublist (List.sublist_cons_self _ _) hm
    simp only [Memory.write]
    split
    · rename_i hba
      split
      · exact ht
      · rename_i hx
        rw [Memory.wf_iff]
        subst hba
        refine ⟨List.pairwise_cons.2 ⟨hp.1, hp.2⟩, ?_⟩
        intro c hc
        rcases List.mem_cons.1 hc with rfl | hc
        · exact hx
        · exact hm'.2 c (List.mem_cons_of_mem _ hc)
    · split
      · rename_i hab
        split
        · exact hm
        · rename_i hx
          rw [Memory.wf_iff]
          refine ⟨List.pairwise_cons.2 ⟨?_, hm'.1⟩, ?_⟩
          · intro y hy
            rcases List.mem_cons.1 hy with rfl | hy
            · exact hab
            · exact lt_trans hab (hp.1 y hy)
          · intro c hc
            rcases List.mem_cons.1 hc with rfl | hc
            · exact hx
            · exact hm'.2 c hc
      · rename_i hne hab
        have hr := Memory.wf_iff.1 (ih ht)
        rw [Memory.wf_iff]
        refine ⟨List.pairwise_cons.2 ⟨?_, hr.1⟩, ?_⟩
        · intro y hy
          obtain ⟨c, hc, rfl⟩ := List.mem_map.1 hy
          rcases Memory.mem_write hc with hc | ⟨rfl, -⟩
          · exact hp.1 _ (List.mem_map.2 ⟨c, hc, rfl⟩)
          · change b < a
            omega
        · intro c hc
          rcases List.mem_cons.1 hc with rfl | hc
          · exact hm'.2 _ (by simp)
          · exact hr.2 c hc

/-- Consecutive writes keep the canonical form. -/
theorem Memory.wf_writeAll {d : α} {m : Cells α} (hm : Memory.wf d m = true) (a : Nat) (xs : List α) :
    Memory.wf d (Memory.writeAll d m a xs) = true := by
  induction xs generalizing m a with
  | nil => exact hm
  | cons x xs ih => exact ih (Memory.wf_write hm a x) (a + 1)

/-! ### Reads -/

omit [DecidableEq α] in
/-- An address that is not listed reads as the default. -/
theorem Memory.read_absent {d : α} {m : Cells α} {a : Nat} (h : ∀ c ∈ m, c.1 ≠ a) : Memory.read d m a = d := by
  induction m with
  | nil => rfl
  | cons e m ih =>
    obtain ⟨b, v⟩ := e
    simp only [Memory.read]
    rw [if_neg (h (b, v) (by simp))]
    exact ih fun c hc => h c (List.mem_cons_of_mem _ hc)

/-- A read after a write to the same place gives the value written. -/
theorem Memory.read_write_same {d : α} {m : Cells α} (hm : Memory.wf d m = true) (a : Nat) (x : α) :
    Memory.read d (Memory.write d m a x) a = x := by
  induction m with
  | nil =>
    simp only [Memory.write]
    split
    · simp [Memory.read, *]
    · simp [Memory.read]
  | cons e m ih =>
    obtain ⟨b, v⟩ := e
    have hp := List.pairwise_cons.1 (Memory.wf_iff.1 hm).1
    have ht : Memory.wf d m = true := Memory.wf_sublist (List.sublist_cons_self _ _) hm
    simp only [Memory.write]
    split
    · rename_i hba
      split
      · rename_i hx
        rw [Memory.read_absent, hx]
        intro c hc
        have := hp.1 c.1 (List.mem_map.2 ⟨c, hc, rfl⟩)
        omega
      · simp [Memory.read]
    · rename_i hne
      split
      · rename_i hab
        split
        · rename_i hx
          simp only [Memory.read]
          rw [if_neg hne, Memory.read_absent, hx]
          intro c hc
          have := hp.1 c.1 (List.mem_map.2 ⟨c, hc, rfl⟩)
          omega
        · simp [Memory.read]
      · simp only [Memory.read]
        rw [if_neg hne]
        exact ih ht

/-- A write leaves every other place as it read. -/
theorem Memory.read_write_ne {d : α} (m : Cells α) {a b : Nat} (hab : b ≠ a) (x : α) :
    Memory.read d (Memory.write d m a x) b = Memory.read d m b := by
  induction m with
  | nil =>
    simp only [Memory.write]
    split
    · rfl
    · simp [Memory.read, Ne.symm hab]
  | cons e m ih =>
    obtain ⟨c, v⟩ := e
    simp only [Memory.write]
    split
    · rename_i hca
      split
      · simp [Memory.read, hca, Ne.symm hab]
      · simp [Memory.read, hca, Ne.symm hab]
    · split
      · split
        · rfl
        · simp [Memory.read, Ne.symm hab]
      · simp only [Memory.read, ih]

/-- Consecutive writes leave every place outside them as it read. -/
theorem Memory.read_writeAll_outside {d : α} (m : Cells α) {a b : Nat} (xs : List α) (h : b < a ∨ a + xs.length ≤ b) :
    Memory.read d (Memory.writeAll d m a xs) b = Memory.read d m b := by
  induction xs generalizing m a with
  | nil => rfl
  | cons x xs ih =>
    simp only [List.length_cons] at h
    rw [Memory.writeAll, ih _ (by omega), Memory.read_write_ne _ (by omega)]

/-- Consecutive writes read back. -/
theorem Memory.read_writeAll {d : α} {m : Cells α} (hm : Memory.wf d m = true) (a : Nat) (xs : List α) (i : Nat)
    (hi : i < xs.length) : Memory.read d (Memory.writeAll d m a xs) (a + i) = xs[i] := by
  induction xs generalizing m a i with
  | nil => simp at hi
  | cons x xs ih =>
    rw [Memory.writeAll]
    cases i with
    | zero =>
      rw [Memory.read_writeAll_outside _ _ (by omega)]
      exact Memory.read_write_same hm a x
    | succ i =>
      have := ih (Memory.wf_write hm a x) (a + 1) i (by simpa using hi)
      rw [show a + (i + 1) = a + 1 + i by omega, this]
      rfl

omit [DecidableEq α] in
/-- The places a filter by address keeps read as before, and the others as the default. -/
theorem Memory.read_filter (d : α) (m : Cells α) (p : Nat → Bool) (a : Nat) :
    Memory.read d (m.filter (fun c => p c.1)) a = if p a then Memory.read d m a else d := by
  induction m with
  | nil => simp [Memory.read]
  | cons e m ih =>
    obtain ⟨b, v⟩ := e
    by_cases hp : p b
    · rw [List.filter_cons_of_pos (by simpa using hp)]
      simp only [Memory.read, ih]
      by_cases hba : b = a
      · subst hba; simp [hp]
      · simp [hba]
    · rw [List.filter_cons_of_neg (by simpa using hp), ih]
      by_cases hba : b = a
      · subst hba; simp [hp]
      · simp [Memory.read, hba]

/-! ### The table store -/

/-- Distinct entries of slots lie at distinct addresses. -/
theorem cellAddress_inj {n m e f : Nat} (he : e < 256) (hf : f < 256) (h : cellAddress n e = cellAddress m f) :
    n = m ∧ e = f := by
  unfold cellAddress at h; omega

theorem Store.entry_setEntry_same {st : Store} (hm : Memory.wf erasedEntry st.cells = true) (n e : Nat) (x : Entry) :
    (st.setEntry n e x).entry n e = x := Memory.read_write_same hm _ _

theorem Store.entry_setEntry_ne (st : Store) {n m e f : Nat} (he : e < 256) (hf : f < 256) (h : ¬(m = n ∧ f = e))
    (x : Entry) : (st.setEntry n e x).entry m f = st.entry m f :=
  Memory.read_write_ne _ (fun hc => h (cellAddress_inj hf he hc)) _

theorem Store.slotRec_setSlot_same {st : Store} (hm : Memory.wf SlotRec.blank st.slots = true) (n : Nat) (r : SlotRec) :
    (st.setSlot n r).slotRec n = r := Memory.read_write_same hm _ _

theorem Store.slotRec_setSlot_ne (st : Store) {n m : Nat} (h : m ≠ n) (r : SlotRec) :
    (st.setSlot n r).slotRec m = st.slotRec m := Memory.read_write_ne _ h _

/-- All that the settlement of a slot's damage does: a pending mark that no image holds back makes the slot DAMAGED, and every other record
stays (R164). -/
theorem State.slotRec_settleDamage {s : State} (hm : Memory.wf SlotRec.blank s.store.slots = true) (slot n : Nat) :
    (s.settleDamage slot).store.slotRec n =
      if n = slot ∧ (s.store.slotRec n).damage = true ∧ s.images.names n = false then
        { s.store.slotRec n with state := .damaged, damage := false }
      else s.store.slotRec n := by
  have settled : (s.settleDamage slot) = if (s.store.slotRec slot).damage = true ∧ ¬s.images.names slot = true then
      s.mapStore (fun st => st.setSlot slot { s.store.slotRec slot with state := .damaged, damage := false }) else s := rfl
  rw [settled]
  by_cases hn : n = slot
  · subst hn
    by_cases hd : (s.store.slotRec n).damage = true ∧ ¬s.images.names n = true
    · rw [if_pos hd, if_pos ⟨rfl, hd.1, by simpa using hd.2⟩]
      exact Store.slotRec_setSlot_same hm _ _
    · rw [if_neg hd, if_neg (fun h => hd ⟨h.2.1, by simp [h.2.2]⟩)]
  · rw [if_neg (c := n = slot ∧ _) (fun h => hn h.1)]
    split
    · exact Store.slotRec_setSlot_ne _ hn _
    · rfl

theorem State.images_settleDamage (s : State) (slot : Nat) : (s.settleDamage slot).images = s.images := by
  unfold State.settleDamage; dsimp only; split <;> rfl

theorem State.faults_settleDamage (s : State) (slot : Nat) : (s.settleDamage slot).store.faults = s.store.faults := by
  unfold State.settleDamage; dsimp only; split <;> rfl

/-- An erase makes every entry of its slot read 65,535 and no other entry differently (R156). -/
theorem Store.entry_erase (st : Store) {n m e : Nat} (he : e < 256) :
    (st.erase n).entry m e = if m = n then erasedEntry else st.entry m e := by
  have h := Memory.read_filter erasedEntry st.cells
    (fun a => !decide (cellAddress n 0 ≤ a ∧ a < cellAddress (n + 1) 0)) (cellAddress m e)
  unfold Store.entry Store.erase
  rw [h]
  unfold cellAddress
  by_cases hmn : m = n
  · subst hmn
    rw [if_neg, if_pos rfl]
    rw [Bool.not_eq_true', decide_eq_false_iff_not, not_not]
    omega
  · rw [if_pos, if_neg hmn]
    simp only [Bool.not_eq_true', decide_eq_false_iff_not]
    omega

/-- The entries of a slot read one by one. -/
theorem Store.entries_eq (st : Store) (slot first n : Nat) :
    st.entries slot first n = (List.range n).map (fun i => st.entry slot (first + i)) := by
  unfold Store.entries Memory.readAll Store.entry cellAddress
  simp only [Nat.add_assoc]

/-- The check entry of a slot is no part of what its CRC is taken over (R158). -/
theorem Store.slotCrc_setEntry_check (st : Store) (n : Nat) (x : Entry) : (st.setEntry n 255 x).slotCrc n = st.slotCrc n := by
  unfold Store.slotCrc Memory.readAll
  congr 2
  refine List.map_congr_left (fun i hi => ?_)
  have hi : i < 252 := List.mem_range.1 hi
  exact Memory.read_write_ne _ (by unfold cellAddress; omega) _

/-- The memories of the state right after reset are in canonical form. -/
theorem reset_memories : State.reset.memoriesCanonical := ⟨rfl, rfl, rfl⟩

end Sys2Proof.Machine
end

