-- ==== Sys2Proof/Laws/Status.lean ====
section
/-!
SUPPORT. The records that the link sends, each as the fields it holds, and what STATUS READ answers (section 11.6, R188).
-/

namespace Sys2Proof.Machine

theorem optCycleField_eq (c : Option Cycle) : optCycleField c = optField (c.map BitVec.toInt) := rfl

theorem Store.opFields_eq (st : Store) :
    st.opFields = match st.op with
      | none => [0, absentMarker, absentMarker, absentMarker, (st.faults : Int)]
      | some ⟨kind, slot, .write unit _, _⟩ => [1, kind.code, (slot : Int), (unit : Int), (st.faults : Int)]
      | some op => [1, op.kind.code, (op.slot : Int), absentMarker, (st.faults : Int)] := by
  unfold Store.opFields
  cases st.op with
  | none => rfl
  | some op =>
    obtain ⟨kind, slot, now, rest⟩ := op
    cases now <;> rfl

theorem SlotRec.fields_eq (r : SlotRec) :
    r.fields = [r.state.code, ((r.map.toNat / 2 ^ 32 : Nat) : Int), (BitVec.ofNat 32 r.map.toNat).toInt, (r.cursor : Int),
      boolField r.damage] := by
  unfold SlotRec.fields
  congr 2
  rw [BitVec.toInt_eq_toNat_of_lt] <;> simp [Nat.shiftRight_eq_div_pow] <;> omega

theorem Kind.line_isSome (k : Kind) : k.line.isSome = decide (k.code < 4) := by cases k <;> rfl

theorem sourceByte_eq (ids : List SourceId) (j : Nat) :
    sourceByte ids j = ((ids.filter (fun x => x.kind.code = j)).map (fun x =>
      2 ^ (if x.kind.code < 4 then 0 else x.index.getD 0))).sum := by
  unfold sourceByte
  simp only [Kind.line_isSome, decide_eq_true_eq]

theorem TripRecord.fields_eq (r : TripRecord) :
    r.fields = [(r.number : Int), cycleField r.cycle, (r.kind.code : Int), natField r.index, natField r.bar]
      ++ listFields (r.affected.map (fun a => [(a.stand : Int), (a.given.rank : Int), (a.after.rank : Int)]))
      ++ snapFields r.snap ++ [boolField r.cleared] := by
  simp [TripRecord.fields, listFields, List.flatMap]

theorem State.trainFields_eq (s : State) :
    s.trainFields = s.tbFields ++ s.lineFields
      ++ [s.estops.l0, s.estops.l1, s.estops.l2, s.estops.l3].flatMap Estop.fields
      ++ [(s.gauges.g1, s.conf.gauges.g1), (s.gauges.g2, s.conf.gauges.g2), (s.gauges.g3, s.conf.gauges.g3)].flatMap
          (fun p => p.1.gaugeFields p.2)
      ++ (match s.images.staged with
        | none => [absentMarker, absentMarker, absentMarker]
        | some x => [x.sched.id, (x.slot : Int), boolField x.rep])
      ++ s.store.opFields := by
  unfold State.trainFields
  cases s.images.staged <;> rfl

/-- A curve not loaded is a list of length 0 and an absent slot (log 12). -/
theorem State.curveFields_eq (s : State) (k : Nat) :
    s.curveFields k = match (s.stand k).gcu.curve with
      | none => [0, absentMarker]
      | some c => listFields (c.points.map (fun p => [p.1, p.2])) ++ [(c.slot : Int)] := by
  simp only [State.curveFields]
  cases (s.stand k).gcu.curve <;> rfl

/-- A trace channel's record, with its region and its trigger as two fields each (log 12). -/
theorem TraceChan.fields_eq (c : TraceChan) :
    c.fields = [optField (c.quantity.map TraceQuantity.code), natField c.index]
      ++ (if c.length = 0 then [absentMarker, absentMarker] else [(c.base : Int), (c.length : Int)])
      ++ [c.mode.code, (c.block : Int), (c.post : Int), (c.decimation : Int)]
      ++ [c.trigger.code, natField c.trigger.stand]
      ++ [c.state.code, optCycleField c.armCycle, boolField c.flag, optCycleField c.firstTrigger, optCycleField c.lastTrigger,
        (c.blocks : Int), natField c.wpos, (c.fill : Int), (c.postTaken : Int), cycleField c.phase] := by
  unfold TraceChan.fields
  split <;> rfl

/-- STATUS READ answers the group of a configured stand (R188). -/
theorem State.takeStatus_group {s : State} {k : Nat} (h : s.isStand k = true) :
    s.takeStatus 1 k = (s, .ok, s.standFields k) ∧ s.takeStatus 2 k = (s, .ok, s.controlFields k)
      ∧ s.takeStatus 3 k = (s, .ok, s.curveFields k) ∧ s.takeStatus 4 k = (s, .ok, s.calFields k) := by
  simp [State.takeStatus, h]

end Sys2Proof.Machine
end

