-- ==== Sys2Proof/Tests/Slice0.lean ====
section
/-!
SUPPORT. Tests: ill-formed commands refused by the check, the spec's worked sequences, one step at a time, and a witness for
the hypotheses of each statement.
-/

set_option Elab.async false

namespace Sys2Proof.Tests

open Sys2Proof.Machine

/-! ### Ill-formed commands -/

theorem test_line_24_ill : (Instr.sampleWord 24 0 .ok true).wellFormed = false := by decide
theorem test_line_23_well : (Instr.sampleWord 23 0 .ok true).wellFormed = true := by decide
theorem test_judged_stand_0_ill : (Instr.loadChangeJudged 0).wellFormed = false := by decide
theorem test_judged_stand_8_ill : (Instr.loadChangeJudged 8).wellFormed = false := by decide
theorem test_erase_read_beyond_ill : (Instr.storeEraseDone [(256, 0)]).wellFormed = false := by decide
theorem test_erase_read_twice_ill : (Instr.storeEraseDone [(3, 0), (3, 1)]).wellFormed = false := by decide
theorem test_write_read_check_unit_ill : (Instr.storeWriteDone [(252, 0)]).wellFormed = false := by decide
theorem test_close_read_data_unit_ill : (Instr.storeCloseDone [(251, 0)]).wellFormed = false := by decide
theorem test_save_read_beyond_ill : (Instr.saveStepDone [(256, 0)]).wellFormed = false := by decide
theorem test_no_bytes_ill : (Instr.frameReceived []).wellFormed = false := by decide
theorem test_kind_32_is_known : (Instr.unknownKindRequest 0 32).wellFormed = false := by decide
theorem test_no_pairs_ill : (Instr.configGet 0 []).wellFormed = false := by decide
theorem test_41_items_ill : (Instr.configSet 0 (List.replicate 41 (1, 0, 2))).wellFormed = false := by decide
theorem test_14_tunes_ill : (Instr.tuneSet 0 1 (List.replicate 14 (0, 2))).wellFormed = false := by decide
theorem test_bad_length_kind_ill : (Req.badLength 33).wellFormed = false := by decide
theorem test_40_pairs_well : (Instr.configGet 0 (List.replicate 40 (1, 0))).wellFormed = true := by decide

/-! ### Builders -/

/-- The state after a command; every command answers a next state. -/
def after (c : Instr) (s : State) : State :=
  match exec c s with
  | .next t => t
  | _ => s

/-- The reply in the slot: its code and its body. -/
def reply (s : State) : Option (Code × List Int) := s.link.slot.map (fun r => (r.code, r.body))

/-- The reset state with stand `k`'s record changed. -/
def edit (k : Nat) (f : Stand → Stand) (s : State := State.reset) : State := s.mapStand k f

/-- Stand `k` in a state now and for the cycle, not latched, with a driven reference of 9,000 µm and its channels OK. -/
def put (k : Nat) (x : StandState) (s : State := State.reset) : State :=
  edit k (fun st =>
    { st with
      lostSrc := false, trip := if x = .tripped then st.trip else .clear
      sc := { st.sc with state := x, gapRef := some 9000, prevGap := some 9000 }
      ctx := { st.ctx with state := x }
      chans := ⟨{ st.chans.gap with status := .ok, value := 9000, lostCond := false },
        { st.chans.force with status := .ok, value := 12000, lostCond := false },
        { st.chans.speed with status := .ok, value := 9000, lostCond := false }⟩ }) s

/-- The curve of the worked cases of chapter 5 and of section 8.5. -/
def curve : List (Int × Int) := [(0, 0), (10000, 1800), (20000, 3200)]

/-- The bar copy's fields for stand 7 in the first worked case of chapter 5. -/
def fields7 : StandSched :=
  { hRef := 4700, sBase := 2900, vSched := 9000, slip := 40000, kp := 384, kpShift := 8, ki := 64, kiShift := 0, g := 384, q := 2
    ePos := 400, eNeg := 400, ePosSt := 400, eNegSt := 400, iLim := 1000, hi := 800, lo := 800, rollSlew := 50, startSlew := 50
    windup := true, mode := .single, mg := 64, nMask := 3, threadLimit := 40 }

/-- Stand 1 with the fields, curve, zero and offset of the first worked case of chapter 5. -/
def rollSeven (x : StandSched) : State :=
  edit 1 (fun st =>
    { st with
      sc := { st.sc with sMin := 500, sMax := 60000, prevGap := some 2850, gapRef := some 2850 }
      gcu := { st.gcu with iacc := -2560, zero := 150, curve := some ⟨curve, 0⟩ }
      ctx := { st.ctx with state := .rolling, sched := some x, zero := 150, monitor := -30, curve := some ⟨curve, 0⟩ }
      chans := { st.chans with
        gap := { st.chans.gap with value := 2870 }, force := { st.chans.force with value := 12000 } } }) (put 1 .rolling)

/-! ### Chapter 5: one cycle of stand 7 -/

/-- The quantities of the first worked case. -/
theorem test_deadline_stand7 :
    ((after .sampleDeadline (rollSeven fields7)).stand 1).gcu.q
      = { hEst := some 4800, eRaw := some (-70), e := some (-68), i := some (-27), c := some (-129), dS := some (-193)
          sRef := some 2857 } := by decide +kernel

/-- With a slew of 5 µm the reference is 2,855 µm, marked output limited high, and the accumulator is −6,912. -/
theorem test_deadline_slow_slew :
    let st := (after .sampleDeadline (rollSeven { fields7 with rollSlew := 5 })).stand 1
    st.sc.gapRef = some 2855 ∧ st.gcu.clamp = ⟨false, false, true, false⟩ ∧ st.gcu.iacc = -6912 := by decide +kernel

theorem test_windup_integrates_down : windupHeld true ⟨false, false, true, false⟩ (-60) = false := by decide
theorem test_windup_holds_up : windupHeld true ⟨false, false, true, false⟩ 20 = true := by decide
theorem test_stretch_beyond : stretch curve 26000 = 4040 := by decide
theorem test_stretch_falling : stretch [(5000, 900), (8000, 850)] 6000 = 884 := by decide
theorem test_stretch_below : stretch [(5000, 900), (8000, 850)] 3000 = 900 := by decide
theorem test_quantize : [quantize (-70) 2, quantize 70 2, quantize (-3) 2, quantize 31 4, quantize (-47) 4]
    = [-68, 68, 0, 16, -32] := by decide
theorem test_monitor_first : monitorStep (-30) (4775 - 4810) 64 200 = -31 := by decide
theorem test_monitor_second : monitorStep (-31) (4771 - 4790) 64 200 = -28 := by decide

/-! ### Chapter 6: trims along a seven-stand train -/

theorem test_local_ratio : [localRatio (-4) 3100, localRatio (-12) 2400, localRatio 6 2000] = [-1290, -5000, 3000] := by decide
theorem test_speed_demand : [speedDemand 9000 (-2000), speedDemand 6400 3000] = [8982, 6419] := by decide
theorem test_speed_approach : [approach 9000 8982 12, approach 8988 8982 12] = [(8988, true), (8982, false)] := by decide

/-- Stands 5 to 7 of the seven-stand train: modes OFF, SINGLE and SUCCESSIVE, corrections −4, −12 and +6. -/
def train : State :=
  let one (mode : Mode) (hRef c : Int) (st : Stand) : Stand :=
    { st with
      ctx := { st.ctx with state := .rolling, served := some 22, sched := some { fields7 with mode := mode, hRef := hRef } }
      gcu := { st.gcu with q := { st.gcu.q with c := some c } } }
  let s : State := { State.reset with force := { State.reset.force with standCount := 7 } }
  let s := ((s.mapStand 7 (one .successive 2000 6)).mapStand 6 (one .single 2400 (-12))).mapStand 5 (one .off 3100 (-4))
  s.mapStand 4 (one .off 5000 1)

theorem test_trims : [train.trimSum 7, train.trimSum 6, train.trimSum 5, train.trimSum 4] = [0, 3000, -2000, 3000] := by
  decide +kernel

/-! ### Chapter 2: a force head that drops out and comes back -/

/-- The force channel of stand 3 at the strobe of cycle 500. -/
def channel7 : Chan := { Chan.reset false with status := .ok, age := 0, value := 12207, misses := 12 }

theorem test_scaling : scaledSum ⟨20000, 0⟩ 39813 = 12149 := by decide
theorem test_late_word_counts_a_miss :
    let c := (channel7.deadline 40000 ⟨20000, 0⟩).deadline 40000 ⟨20000, 0⟩
    c.status = .held ∧ c.age = 2 ∧ c.misses = 14 ∧ c.value = 12207 := by decide
theorem test_fourth_miss_is_lost :
    let miss (c : Chan) : Chan := c.deadline 40000 ⟨20000, 0⟩
    let c := miss (miss (miss (miss channel7)))
    c.status = .lost ∧ c.age = 4 ∧ c.misses = 16 ∧ c.lostCond = true := by decide
theorem test_gauge_usable_at_1204 : ({ Chan.reset false with status := .held, lastSample := some 1200 } : Chan).usable 2 1204 = true :=
  by decide
theorem test_gauge_not_usable_at_1205 :
    ({ Chan.reset false with status := .held, lastSample := some 1200 } : Chan).usable 2 1205 = false := by decide

/-! ### Chapter 1: qualifying a mill sync line, and sync lost -/

/-- Cycle 17 of the qualification, with the edges beginning at `first`: the run stands at 16 and the last edge was the 17th. -/
def seventeen (first : Nat) : State :=
  { State.reset with tb := { State.reset.tb with
    state := .qualifying, cycle := 17, lastStrobe := 17000, lastEdge := some (first + 16 * 1005), goodRun := 16, qualCount := 17 } }

/-- Edge 18 at 17,515 µs is a strobe: cycle 18 begins, LOCKED, with 515 µs for cycle 17. -/
theorem test_edge18_is_a_strobe :
    let t := (after (.millSyncEdge 17515 0) (seventeen 430)).tb
    t.state = .locked ∧ t.cycle = 18 ∧ t.lastLen = 515 := by decide +kernel

/-- Edge 18 at 17,115 µs is no strobe, and the next, at 18,120 µs, begins cycle 18 after 1,120 µs. -/
theorem test_edge18_before_half :
    let s := after (.millSyncEdge 17115 0) (seventeen 30)
    s.tb.state = .locked ∧ s.tb.cycle = 17 ∧ (after (.millSyncEdge 18120 0) s).tb.cycle = 18
      ∧ (after (.millSyncEdge 18120 0) s).tb.lastLen = 1120 ∧ (after (.holdoverStrobe 0) s).tb.lastStrobe = 18499 := by
  decide +kernel

/-- The third holdover strobe loses the sync, with the length 1,250 µs. -/
theorem test_sync_lost :
    let s : State := { State.reset with tb := { State.reset.tb with state := .locked, holdover := 2, cycle := 902 } }
    let t := (after (.holdoverStrobe 0) s).tb
    t.state = .internal ∧ t.cycle = 903 ∧ t.lastLen = 1250 ∧ t.holdover = 0 := by decide +kernel

/-! ### Chapter 3: arming, positioning, threading -/

/-- Cycle 1,001 of threading stand 5: the second force at or above F_on is the load-on. -/
theorem test_load_on :
    ({ StandRec.reset .ready (.default 5) with loadKnown := true, loadOnRun := 1 } : StandRec).load 9800 1500 800
      = ({ StandRec.reset .ready (.default 5) with loadKnown := true, loaded := true }, LoadEvent.on) := by decide

/-- Cycle 1,008 of threading stand 5: a positive error after a negative first sign ends threading. -/
theorem test_threading_crossed : ({ StandRec.reset .threading (.default 5) with firstSign := .negative } : StandRec).crossed 12 = true :=
  by decide
theorem test_threading_not_crossed :
    ({ StandRec.reset .threading (.default 5) with firstSign := .negative } : StandRec).crossed (-35) = false := by decide

/-- The slew of the arming sequence: 9,480 to 9,540, then 9,550. -/
theorem test_positioning_slew : [slewToward 9480 9550 60, slewToward 9540 9550 60] = [9540, 9550] := by decide

/-! ### Chapter 4: a head end that bites early -/

/-- The zone speed and the advance of the sequence. -/
theorem test_zone_advance : zoneSpeed 1800 40000 = 1872 ∧ zoneAdvance 1872 1000 = 1872 := by decide

/-- A train of three stands, with stand 2 READY on bar 7, whose head and first body lie in zone 1 as in cycle 3,003. -/
def biteEarly : State :=
  let s := put 2 .ready
  let s : State := { s with
    force := { s.force with standCount := 3, zones := { s.force.zones with z1 := 5500 }, wEarly := 300, wHead := 400 }
    tb := { s.tb with deadlineDone := true, updateDone := true } }
  let seg (seq : Nat) (kind : SegKind) (dist : Int) : Seg :=
    { seq := seq, bar := 7, kind := kind, zone := 1, dist := dist, birth := 0, ests := [], reads := [] }
  { edit 2 (fun st => { st with sc := { st.sc with target := .bar 7 } }) s with
    track := { s.track with
      bars := [{ id := 7, copy := 0, slot := 0, furthest := 1, missed := none, tailBorn := false, trackFull := false
                 deferred := false }]
      segs := [seg 120 .head 5204516, seg 121 .body 4204516], held := [⟨2, true⟩] } }

/-- The head snaps to the bite of stand 2 and the body moves on by 295,484 µm. -/
theorem test_head_snap :
    let t := after (.loadChangeJudged 2) biteEarly
    t.track.segs.map Seg.pos = [(2, 0), (1, 4500000)] ∧ (t.stand 2).sc.state = .threading
      ∧ (t.stand 2).sc.served = some 7 := by decide +kernel

/-! ### Chapter 8: a calibration of stand 2 -/

theorem test_steady_band : steadyBand 2000 = (1800, 2400) := by decide

/-- The averages and the candidate zero of the worked calibration. -/
theorem test_calibration_average :
    let c := ({ Cal.reset with phase := .holding, sumS := 10270, sumF := 129600 } : Cal).average curve
    c.sAvg = some 160 ∧ c.fAvg = some 2025 ∧ c.candidate = some 524 ∧ c.phase = .opening ∧ c.result = .ok := by decide

/-! ### Chapter 9: the CRC, and writing a curve slot -/

theorem test_crc_of_digits : crc16 [0x31, 0x32, 0x33, 0x34, 0x35, 0x36, 0x37, 0x38, 0x39] = 0x29B1#16 := by decide +kernel

/-- A reset state whose slot 35 is OPEN with a cursor. -/
def open35 (cursor : Nat) : State :=
  { State.reset with store := { State.reset.store with slots := [(35, ⟨.opened, BitVec.ofNat 63 (2 ^ cursor - 1), cursor, false⟩)] } }

/-- Step 5: a write at the cursor starts at once, and marks its unit. -/
theorem test_store_write_at_cursor :
    let t := after (.storeWrite 1 35 ⟨2100, 24000, 3600, 65535⟩ none) (open35 1)
    reply t = some (.ok, []) ∧ (t.store.slotRec 35).map = 3 ∧ t.store.mark = some 35 := by decide +kernel

/-- Step 9: a written unit is refused with NOT_BLANK. -/
theorem test_store_write_again :
    reply (after (.storeWrite 1 35 ⟨2100, 24000, 3600, 65535⟩ (some 1)) (open35 2)) = some (.notBlank, []) := by decide +kernel

/-- A write beyond the last unit by the cursor is refused with BAD_INDEX. -/
theorem test_store_write_cursor_63 :
    reply (after (.storeWrite 1 35 ⟨0, 0, 0, 0⟩ none) (open35 63)) = some (.badIndex, []) := by decide +kernel

/-! ### Resets and the link -/

/-- Power-on with the erased store and low pins is the reset state. -/
theorem test_power_on_is_reset : after (.powerOn 0 0) State.reset = State.reset := by decide +kernel

/-- IDENT answers part code 6 and the default N and Tc. -/
theorem test_ident : reply (after (.ident 1) State.reset) = some (Code.ok, [6, (Config.siliconRevision : Int), 1, 2, 1000, 4, 32, 0, 0]) := rfl

/-- A TRIP reply carries the next cycle. -/
theorem test_trip_reply : reply (after (.trip 1 0) State.reset) = some (.ok, [1]) := by decide +kernel

/-- After a reset the stands' channels are LOST, so their measurement lost source keeps them from being cleared. -/
theorem test_clear_after_reset :
    (reply (after (.tripClear 1 0) State.reset)).map Prod.fst = some .sourceActive := by decide +kernel

/-- A restart is refused while a stand is positioned. -/
theorem test_restart_refused : reply (after (.restart 1) (put 1 .positioning)) = some (.wrongState, []) := by decide +kernel

/-- A whole frame of TRIP, stand 2, tag 9, as bytes: its HOST source is queued. -/
theorem test_frame_of_trip :
    let core : List Byte := [0x0F, 9, 1, 2]
    (after (.frameReceived (0xA5 :: core ++ bytes16 (crc16 core))) State.reset).trips.host = [some 2] := by decide +kernel

/-! ### Witnesses: the link

Each theorem below shows states and operands that meet the hypotheses of the statement it is named after, one part for each
clause, at the ends of its ranges. -/

/-- A formed reply that stands in the slot. -/
def someReply (order : Nat) (fields : Nat) : Reply := ⟨0x01, 1, .ok, 0, List.replicate fields 0, order⟩

/-- The reset state with its link changed. -/
def onLink (f : Link → Link) : State := State.reset.mapLink f

theorem reset_ready : State.reset.ready := ⟨rfl, rfl, rfl⟩

theorem witness_StepRunsFrontCommand : State.reset.pending = [] := rfl

theorem witness_RequestArrives :
    let full (q b : Nat) : State := onLink (fun l =>
      { l with slot := some (someReply 0 1), queue := List.replicate q (1, .ident), busy := List.replicate b (someReply 0 1) })
    ((Instr.restart 1).request? = some (1, .restart) ∧ State.reset.link.slot = none ∧ State.reset.link.queue = []
        ∧ State.reset.link.restart = .nothing)
      ∧ ((full 3 0).link.slot ≠ none ∧ (full 3 0).link.queue.length < 4)
      ∧ ((onLink (fun l => { l with restart := .accepted })).link.restart ≠ .nothing)
      ∧ (4 ≤ (full 4 3).link.queue.length ∧ (full 4 3).link.busy.length < 4)
      ∧ (4 ≤ (full 4 4).link.queue.length ∧ 4 ≤ (full 4 4).link.busy.length) := by decide +kernel

theorem witness_RequestRoundTrip :
    (Req.configSet (List.replicate 40 (1, 0, 2))).wellFormed = true ∧ (Req.tuneSet 1 (List.replicate 13 (0, 2))).wellFormed = true
      ∧ (Req.configGet [(1, 0)]).wellFormed = true ∧ (Req.unknownKind 33).wellFormed = true
      ∧ ∀ k, Req.configGet [(1, 0)] ≠ .badLength k := ⟨by decide, by decide, by decide, by decide, by simp⟩

/-- A whole frame in one piece and behind a kept piece; a piece of it; noise; a frame with a wrong check value. -/
theorem witness_FrameReceived :
    let f := frameBytes (reqKind .ident) 1 (reqPayload .ident)
    State.reset.link.discards ≤ 65535 ∧ (onLink (fun l => { l with discards := 65535 })).link.discards ≤ 65535
      ∧ (State.reset.ready ∧ State.reset.link.rx ++ f = f)
      ∧ ((onLink (fun l => { l with rx := [0xA5] })).ready
        ∧ (onLink (fun l => { l with rx := [0xA5] })).link.rx ++ f.drop 1 = f)
      ∧ (State.reset.link.rx ++ f.take 5 ++ f.drop 5 = f ∧ f.drop 5 ≠ [])
      ∧ (State.reset.link.rx = [] ∧ (0xA5#8 : Byte) ∉ ([0x00, 0x5A] : List Byte))
      ∧ ((0xA5#8 : Byte) ∉ ([1, 1, 0, 0, 0] : List Byte) ∧ ([0, 0] : List Byte) ≠ bytes16 (crc16 [1, 1, 0]))
      ∧ ((250 : Nat) < (251 : Byte).toNat ∧ (0xA5#8 : Byte) ∉ ([1, 1, 251] : List Byte)) :=
  ⟨by decide, by decide, ⟨reset_ready, rfl⟩, ⟨⟨rfl, rfl, rfl⟩, rfl⟩, by decide +kernel, by decide, by decide +kernel, by decide⟩

/-- A request and a frame of length 251 in one piece, in either order: IDENT shows the discards before it alone (R181, R188). -/
theorem test_ident_before_discard :
    let f := frameBytes (reqKind .ident) 1 (reqPayload .ident)
    let seen (bytes : List Byte) : Option Int × Nat :=
      let t := after (.frameReceived bytes) State.reset
      ((reply t).bind (fun r => r.2[7]?), t.link.discards)
    seen (f ++ [0xA5, 1, 1, 251]) = (some 0, 1) ∧ seen ([0xA5, 1, 1, 251] ++ f) = (some 1, 1) := by decide +kernel

theorem witness_InterByteTimeout :
    (onLink (fun l => { l with rx := [0xA5] })).link.rx = 0xA5#8 :: []
      ∧ ((onLink (fun l => { l with rx := [0xA5, 1, 2] })).link.rx = 0xA5#8 :: [1, 2] ∧ (0xA5#8 : Byte) ∉ ([1, 2] : List Byte))
      ∧ (State.reset.link.rx = [] ∧ State.reset.link.discards ≤ 65535) := by decide

/-- An unsuitable length; a body at the end of one frame and beyond it; a report at the 32nd place and beyond; a cycle that is due,
one that is not, four stands and five, and 28 and 29 reports queued. -/
theorem witness_RepliesAndReports :
    let ended (exponent : Nat) (stands : List Nat) (queued : Nat) : State :=
      { onLink (fun l => { l with
          sub := some ⟨exponent, stands⟩, reports := List.replicate queued State.resetReport }) with
        tb := { State.reset.tb with cycle := 16, deadlineDone := true, updateDone := true } }
    (State.reset.ready ∧ readReq 0x06 [1, 2] = .badLength 0x06)
      ∧ (((someReply 0 10).body.flatMap fieldBytes).length + 7 ≤ 250 ∧ 250 < ((someReply 0 100).body.flatMap fieldBytes).length + 7)
      ∧ ((ended 4 [1] 31).link.reports.length < 32 ∧ 32 ≤ (ended 4 [1] 32).link.reports.length)
      ∧ ((ended 4 [1, 2] 28).tb.state ≠ .locked ∧ (ended 4 [1, 2] 28).tb.deadlineDone = true
        ∧ (ended 4 [1, 2] 28).tb.updateDone = true ∧ (ended 4 [1, 2] 28).track.held = [])
      ∧ ((16 : Nat) % 2 ^ 4 = 0 ∧ (16 : Nat) % 2 ^ 5 ≠ 0 ∧ (ended 4 [1] 28).settleTrace.link.reports.length = 28
        ∧ (ended 4 [1] 29).settleTrace.link.reports.length = 29)
      ∧ (after (.internalReferenceStrobe 0) (ended 4 [1, 2, 3, 4, 5] 0)).link.reports.map Report.part = [1, 2] :=
  ⟨⟨reset_ready, by decide⟩, by decide +kernel, by decide +kernel, by decide +kernel, by decide +kernel, by decide +kernel⟩

/-- Payload lengths next to those that the kinds with more than one length allow, and the least and greatest that they allow. -/
theorem witness_RepliesAndReports_lengths :
    let sent (kind : Byte) (n : Nat) : Req := readReq kind (List.replicate n 0)
    ([0, 1, 3, 81, 82].all (fun n => sent 0x02 n = .badLength 0x02) ∧ [2, 80].all (fun n => sent 0x02 n ≠ .badLength 0x02))
      ∧ ([0, 5, 7, 241, 246].all (fun n => sent 0x03 n = .badLength 0x03) ∧ [6, 240].all (fun n => sent 0x03 n ≠ .badLength 0x03))
      ∧ ([0, 3].all (fun n => sent 0x0A n = .badLength 0x0A) ∧ [1, 2].all (fun n => sent 0x0A n ≠ .badLength 0x0A))
      ∧ ([0, 1, 5, 7, 67, 71].all (fun n => sent 0x0C n = .badLength 0x0C) ∧ [6, 66].all (fun n => sent 0x0C n ≠ .badLength 0x0C))
      ∧ ([8, 11].all (fun n => sent 0x16 n = .badLength 0x16) ∧ [9, 10].all (fun n => sent 0x16 n ≠ .badLength 0x16)) := by
  decide +kernel

/-- A finished snapshot cycle with its timebase changed. -/
def snapCycle (f : Timebase → Timebase) : State :=
  (onLink (fun l => { l with sub := some ⟨4, [2]⟩, reports := [] })).mapTb (fun t =>
    f { t with cycle := 16, lastStrobe := 1000, deadlineDone := true, updateDone := true })

/-- Every strobe ends a snapshot cycle: the internal reference, the holdover, an edge in LOCKED at 0.75 Tc, one after a switching edge,
and a switching edge at half a period. -/
theorem witness_RepliesAndReports_strobes :
    let held := snapCycle (fun t => { t with state := .locked })
    let switched := snapCycle (fun t => { t with state := .locked, switchEdge := some 1400 })
    let good := snapCycle (fun t => { t with state := .qualifying, goodRun := 16, lastEdge := some 500 })
    ((snapCycle id).struckBy (.internalReferenceStrobe 0) 0 0 ∧ (snapCycle id).finished)
      ∧ (held.struckBy (.holdoverStrobe 0) 0 0 ∧ held.struckBy (.millSyncEdge 1750 0) 0 1750 ∧ held.finished)
      ∧ (switched.struckBy (.millSyncEdge 2150 0) 0 2150 ∧ switched.finished)
      ∧ (good.struckBy (.millSyncEdge 1500 0) 0 1500 ∧ good.finished)
      ∧ ([after (.internalReferenceStrobe 0) (snapCycle id), after (.holdoverStrobe 0) held, after (.millSyncEdge 1750 0) held,
          after (.millSyncEdge 2150 0) switched, after (.millSyncEdge 1500 0) good].all (fun t =>
        match t.link.reports with
        | ⟨16, 1, 1, .snapshot 0 [(2, _)]⟩ :: _ => true
        | _ => false)) = true :=
  ⟨⟨.inl ⟨rfl, by decide⟩, rfl, rfl, rfl⟩,
    ⟨.inr (.inl ⟨rfl, rfl⟩), .inr (.inr (.inl ⟨rfl, rfl, .inl (by decide)⟩)), rfl, rfl, rfl⟩,
    ⟨.inr (.inr (.inl ⟨rfl, rfl, .inr ⟨1400, rfl, by decide⟩⟩)), rfl, rfl, rfl⟩,
    ⟨.inr (.inr (.inr ⟨rfl, rfl, rfl, by decide, by decide, by decide, 500, rfl, by decide⟩)), rfl, rfl, rfl⟩, by decide +kernel⟩

theorem witness_TransmitOrder :
    let two := someReply 0 100
    let l0 := State.reset.link
    (l0.restart = .nothing ∧ l0.queue = [] ∧ 1 < two.parts)
      ∧ ((onLink (fun l => { l with tx := some (.reply two 2), slot := some (someReply 3 1) })).link.atEnd ∧ two.parts ≤ 2)
      ∧ (onLink (fun l => { l with slot := some (someReply 3 1), busy := [someReply 3 1], queue := [(1, .ident)] })).link.atEnd
      ∧ (∀ b ∈ ([someReply 3 1] : List Reply).head?, (someReply 3 1).order ≤ b.order)
      ∧ ((onLink (fun l => { l with slot := some (someReply 4 1), busy := [someReply 3 1] })).link.atEnd
        ∧ (someReply 3 1).order < (someReply 4 1).order)
      ∧ (l0.atEnd ∧ l0.queue = [] ∧ l0.slot = none ∧ l0.busy = [] ∧ l0.reports = [State.resetReport])
      ∧ ((onLink (fun l => { l with reports := [] })).link.atEnd
        ∧ (onLink (fun l => { l with reports := [] })).link.reports = []) := by
  have idle : ∀ l : Link, l.restart = .nothing → l.tx = none → l.atEnd := fun l h1 h2 => ⟨h1, fun r p h => by rw [h2] at h; cases h⟩
  refine ⟨⟨rfl, rfl, by decide⟩, ⟨⟨rfl, fun r p h => ?_⟩, by decide⟩, idle _ rfl rfl, ?_, ⟨idle _ rfl rfl, by decide⟩,
    ⟨idle _ rfl rfl, rfl, rfl, rfl, rfl⟩, idle _ rfl rfl, rfl⟩
  · cases h; decide
  · intro b hb; cases hb; decide

/-! ### Witnesses: resets and timebase -/

theorem witness_ResetUnits : Instr.powerOn 15 3 = .powerOn 15 3 ∧ Instr.resetInput 0 0 = .resetInput 0 0
    ∧ State.reset.store.op = none ∧ State.reset.memoriesCanonical
    ∧ (41 < 42 ∧ ({ State.reset.store with mark := some 41 } : Store).mark = some 41) :=
  ⟨rfl, rfl, rfl, ⟨rfl, rfl, rfl⟩, by decide, rfl⟩

theorem witness_ResetStands : (Instr.powerOn 0 0 = .powerOn 0 0 ∧ 2 ≤ State.reset.conf.n)
    ∧ (State.reset.conf.n < 3 ∧ State.reset.conf.n < 7) ∧ State.reset.memoriesCanonical :=
  ⟨⟨rfl, by decide⟩, by decide, rfl, rfl, rfl⟩

theorem witness_RestartReset :
    State.reset.link.restart ≠ .due
      ∧ (let s : State := { onLink (fun l => { l with restart := .due }) with
          trips := ⟨List.replicate 16 State.resetRecord, 65535, []⟩ }
        s.link.restart = .due ∧ s.trips.records.length ≤ 16
          ∧ (s.store.slotRec 40).damage = false ∧ (s.store.slotRec 41).damage = false
          ∧ (s.store.slotRec 40).state ≠ .valid ∧ (s.store.slotRec 41).state ≠ .valid ∧ 2 ≤ State.reset.conf.n) := by decide +kernel

/-- The reset state with its timebase changed. -/
def onTb (f : Timebase → Timebase) : State := State.reset.mapTb f

theorem witness_ReferenceStrobe :
    let q (count : Nat) (pending seen : Bool) : State := onTb (fun t =>
      { t with state := .qualifying, qualCount := count, pendingInternal := pending, edgeSeen := seen })
    (onTb (fun t => { t with state := .locked })).tb.state = .locked
      ∧ State.reset.tb.state = .internal
      ∧ ((q 63 true false).tb.state = .qualifying ∧ (q 63 true false).tb.pendingInternal = true)
      ∧ ((q 63 false false).tb.edgeSeen = false ∧ 63 ≤ (q 63 false false).tb.qualCount)
      ∧ ((q 62 false false).tb.qualCount < 63 ∧ (q 62 false false).conf.period = (q 62 false false).tb.period)
      ∧ ((q 63 false true).tb.edgeSeen = true ∧ (q 63 false true).tb.qualCount < 64)
      ∧ (∀ s ∈ [q 62 false false, q 63 false true],
        ({ s with conf := { s.conf with period := 2000 } } : State).conf.period ≠ s.tb.period) := by decide +kernel

/-- Stand 3 added within a cycle of two stands, or removed and added again within one of three, has its channels reset at the strobe. -/
theorem witness_ReferenceStrobe_added :
    let three : State := { State.reset with conf := { State.reset.conf with standCount := 3 } }
    let again : State := { three with force := three.conf }
    (three.lowN < 3 ∧ three.force.n < 3 ∧ 3 ≤ three.conf.n) ∧ (again.lowN < 3 ∧ 3 ≤ again.force.n)
      ∧ [three, again].map (fun s => ((after (.internalReferenceStrobe 0) s).stand 3).chans) = [.reset true, .reset true]
      ∧ (State.reset.stand 3).sc.served = none ∧ 0 ≤ (three.conf.stands.get 3).mLimit
      ∧ (after (.internalReferenceStrobe 0) three).lowN = 3 := by decide +kernel

/-- A finished cycle with stand 1 THREADING for its fifth cycle and stand 2 armed; and the same with a HOST source that opens both. -/
def threadedAndArmed (host : Bool) : State :=
  let s := edit 2 (fun st => { st with sc := { st.sc with armGap := some 9300, armSpeed := some 700 } })
    (edit 1 (fun st => { st with sc := { st.sc with threadCount := 5 } }) (put 1 .threading (put 2 .positioning)))
  { s with
    tb := { s.tb with deadlineDone := true, updateDone := true }
    estops := ⟨⟨false, true, 0⟩, ⟨false, true, 0⟩, ⟨false, true, 0⟩, ⟨false, true, 0⟩⟩
    conf := { s.conf with matrix := { s.conf.matrix with host := ⟨3, 0, 0, 0⟩ } }
    trips := { s.trips with host := if host then [some 1, some 2] else [] } }

/-- The thread count rises to 6 and the first references are handed over, or both are gone with the latches; a stand in no THREADING
keeps its count. -/
theorem witness_ReferenceStrobe_stands :
    let t (host : Bool) : State := after (.internalReferenceStrobe 15) (threadedAndArmed host)
    ((threadedAndArmed false).tb.deadlineDone = true ∧ (threadedAndArmed false).track.held = [] ∧ 2 ≤ (threadedAndArmed false).lowN)
      ∧ (((t false).stand 1).sc.state = .threading ∧ ((t false).stand 1).sc.threadCount = 6
        ∧ ((t false).stand 1).trip.latch = false)
      ∧ (((t false).stand 2).sc.state = .positioning ∧ ((t false).stand 2).ctx.start = some 9300
        ∧ ((t false).stand 2).ctx.startSpeed = some 700 ∧ ((t false).stand 2).sc.armGap = none ∧ ((t false).stand 2).sc.threadCount = 0)
      ∧ (((t true).stand 1).trip.latch = true ∧ ((t true).stand 1).sc.threadCount = 0 ∧ ((t true).stand 1).ctx.action = .opening
        ∧ ((t true).stand 2).trip.latch = true ∧ ((t true).stand 2).ctx.start = none) := by decide +kernel

/-- N from 3 to 2 in a snapshot cycle before its deadline: the second cycle at or above F_on still sets stand 3's load flag, and the
snapshot of the cycle sends it (R6, R45, R47, R187). -/
theorem test_removed_stand_load_flag :
    let conf : Conf := { State.reset.conf with standCount := 3 }
    let s : State := put 3 .parked ({ snapCycle (fun t => { t with deadlineDone := false, updateDone := false }) with
      conf := conf, force := conf, lowN := 3 } : State)
    let s := (s.mapSc 3 (fun r => { r with loadKnown := true, loadOnRun := 1 })).mapLink (fun l => { l with sub := some ⟨4, [3]⟩ })
    let t := after .sampleDeadline (after (.configSet 1 [(1, 0, 2)]) s)
    (t.conf.n, t.force.n, t.lowN) = (2, 3, 2) ∧ (t.stand 3).sc.loaded = true ∧ (t.stand 3).sc.loadOnRun = 0
      ∧ (after (.internalReferenceStrobe 15) (after .trackerUpdate t)).link.reports.any (fun r =>
        match r.body with
        | .snapshot _ [(3, q)] => q[1]? == some 1
        | _ => false) = true := by decide +kernel

/-- N from 3 to 2 to 3 within a cycle: stand 3's channels stay in use to its end, and start anew at the strobe (R32). -/
theorem test_readded_stand_keeps_channels :
    let c : Chan := { Chan.reset false with status := .ok, value := 9000, misses := 5 }
    let conf : Conf := { State.reset.conf with standCount := 3 }
    let s : State := (({ State.reset with conf := conf, force := conf, lowN := 3 } : State).mapStand 3 (fun st =>
      { st with chans := { st.chans with gap := c } }))
    let set (n : BitVec 32) (s : State) : State := (after (.configSet 1 [(1, 0, n)]) s).mapLink (fun l => { l with slot := none })
    let t := after .sampleDeadline (set 3 (set 2 s))
    ((t.conf.n, t.force.n, t.lowN) = (3, 3, 2))
      ∧ (t.stand 3).chans.gap = { c with status := .held, age := 1, misses := 6 }
      ∧ ((after (.internalReferenceStrobe 0) t).stand 3).chans = .reset true := by decide +kernel

/-- N from 3 to 2 to 3 within a cycle in which stand 3 is held by a trip: its references of the cycle are repeated at the deadline (R6,
R128), and RELEASED from the next cycle, with no live override. -/
theorem test_readded_stand_keeps_references :
    let conf : Conf := { State.reset.conf with standCount := 3 }
    let s : State := (({ State.reset with conf := conf, force := conf, lowN := 3 } : State).mapStand 3 (fun st =>
      { st with
        sc := { st.sc with state := .tripped, gapRef := some 9000, prevGap := some 9000 }
        scu := { st.scu with speedRef := some 700, prevSpeed := some 700 }
        gcu := { st.gcu with live := { Tune.empty with kp := some 5 } }
        trip := ⟨true, .hold, [], 0⟩, ctx := { st.ctx with state := .tripped, action := .hold } }))
    let set (n : BitVec 32) (s : State) : State := (after (.configSet 1 [(1, 0, n)]) s).mapLink (fun l => { l with slot := none })
    let refs (s : State) : StandState × Option Int × Option Int × Option Int :=
      ((s.stand 3).sc.state, (s.stand 3).sc.gapRef, (s.stand 3).scu.speedRef, (s.stand 3).gcu.live.kp)
    let t := after .sampleDeadline (set 3 (set 2 s))
    refs t = (.parked, some 9000, some 700, some 5)
      ∧ (refs (after (.internalReferenceStrobe 15) t)).2 = (none, none, none)
      ∧ (reply (after (.tuneSet 1 3 [(2, 7)]) t)).map (fun r => r.2.take 3) = some [absentMarker, absentMarker, 7] := by decide +kernel

/-- The interval of an edge at a time, in QUALIFYING with Tc 1,000 µs, the last strobe at 17,000 µs and the last edge at 16,510. -/
theorem witness_QualifyingEdge :
    let q (count run : Nat) (last : Option Nat) (pending : Bool) : Timebase :=
      { State.reset.tb with
        state := .qualifying, lastStrobe := 17000, qualCount := count, goodRun := run, lastEdge := last, pendingInternal := pending }
    State.reset.tb.state = .internal ∧ (q 1 0 none true).pendingInternal = true
      ∧ (18000 - (q 0 0 none false).lastStrobe ≤ (q 0 0 none false).period.toNat ∧ (q 62 0 none false).qualCount < 63)
      ∧ (96 * (q 62 15 (some 16510) false).period.toNat ≤ 100 * (17470 - 16510)
        ∧ 100 * (17550 - 16510) ≤ 104 * (q 62 15 (some 16510) false).period.toNat ∧ (q 62 15 (some 16510) false).goodRun < 16)
      ∧ (¬96 * (q 62 15 (some 16510) false).period.toNat ≤ 100 * (17469 - 16510)
        ∧ ¬100 * (17551 - 16510) ≤ 104 * (q 62 15 (some 16510) false).period.toNat)
      ∧ (63 ≤ (q 63 15 (some 16510) false).qualCount ∧ ¬16 ≤ (q 63 15 (some 16510) false).goodRun) := by decide +kernel

/-- The switching edge, half a period after the last strobe and short of it. -/
theorem witness_QualifyingEdge_switching :
    let s := seventeen 430
    (s.tb.state = .qualifying ∧ s.tb.pendingInternal = false ∧ 17500 - s.tb.lastStrobe ≤ s.tb.period.toNat
        ∧ s.tb.lastEdge = some 16510 ∧ 16 ≤ s.tb.goodRun ∧ 96 * s.tb.period.toNat ≤ 100 * (17500 - 16510)
        ∧ 100 * (17500 - 16510) ≤ 104 * s.tb.period.toNat ∧ s.tb.period.toNat ≤ 2 * (17500 - s.tb.lastStrobe))
      ∧ (2 * (17499 - s.tb.lastStrobe) < s.tb.period.toNat ∧ 96 * s.tb.period.toNat ≤ 100 * (17499 - 16510)) := by decide +kernel

theorem witness_LockedEdge :
    let lock (switch : Option Nat) (pending : Bool) : Timebase :=
      { State.reset.tb with state := .locked, lastStrobe := 17000, switchEdge := switch, pendingInternal := pending }
    ((lock none false).state = .locked ∧ 4 * (17749 - (lock none false).lastStrobe) < 3 * (lock none false).period.toNat)
      ∧ (4 * (17864 - 17115) < 3 * (lock (some 17115) false).period.toNat)
      ∧ (3 * (lock none false).period.toNat ≤ 4 * (17750 - (lock none false).lastStrobe)
        ∧ 4 * (18250 - (lock none true).lastStrobe) ≤ 5 * (lock none true).period.toNat)
      ∧ (3 * (lock (some 17115) true).period.toNat ≤ 4 * (17865 - 17115)
        ∧ 2 * (18499 - (lock (some 17115) true).lastStrobe) < 3 * (lock (some 17115) true).period.toNat)
      ∧ ({ State.reset.conf with period := 500 } : Conf).period ≠ (lock none false).period := by decide +kernel

/-- A new Tc taken in LOCKED, at an edge and at a holdover strobe: SYNC with REQUALIFYING (R15). -/
theorem test_requalifying :
    let s : State := { onTb (fun t => { t with state := .locked, lastStrobe := 17000 }) with
      conf := { State.reset.conf with period := 500 } }
    [after (.millSyncEdge 18000 0) s, after (.holdoverStrobe 0) s].map (fun t =>
        (t.tb.state, t.tb.period, (t.link.reports.map Report.body).getD 1 (.snapshot 0 [])))
      = [(.qualifying, 500, .event .sync [3, 1]), (.qualifying, 500, .event .sync [3, 1])] := by decide +kernel

theorem witness_HoldoverStrobe :
    let lock (count : Nat) (pending : Bool) : State := onTb (fun t =>
      { t with state := .locked, holdover := count, pendingInternal := pending })
    State.reset.tb.state ≠ .locked ∧ ((lock 2 true).tb.state = .locked ∧ (lock 2 true).tb.pendingInternal = true)
      ∧ ((lock 1 false).tb.holdover < 2 ∧ (lock 1 false).conf.period = (lock 1 false).tb.period)
      ∧ 2 ≤ (lock 2 false).tb.holdover
      ∧ ({ State.reset.conf with period := 500 } : Conf).period ≠ (lock 1 false).tb.period := by decide +kernel

/-! ### More worked cases, one step each -/

/-- The tune override that lowers I_lim: at the strobe both fields are live and the accumulator is −5,120. -/
theorem test_tune_lowers_limit :
    let s := edit 1 (fun st =>
      { st with gcu := { st.gcu with iacc := -6912, pendingTune := some { Tune.empty with kp := some 512, iLim := some 20 } } })
      (onTb (fun t => { t with deadlineDone := true, updateDone := true }))
    let g := ((after (.internalReferenceStrobe 0) s).stand 1).gcu
    g.iacc = -5120 ∧ g.live = { Tune.empty with kp := some 512, iLim := some 20 } ∧ g.pendingTune = none := by decide +kernel

/-- Cycle 704 of the stand held and then opened: 10,450 − 2,000 mm/s. -/
theorem test_opened_speed :
    let f := State.reset.force
    let s : State := { edit 1 (fun st =>
        { st with scu := { st.scu with prevSpeed := some 10450 }, ctx := { st.ctx with action := .opening } }) with
      force := { f with stands := { f.stands with s1 := { f.stands.s1 with speedRamp := 2000 } } } }
    ((after .sampleDeadline s).stand 1).scu.speedRef = some 8450 := by decide +kernel

/-- A stop sampled low at two strobes in a row becomes ACTIVE at the second. -/
theorem test_estop_two_strobes :
    ((⟨false, true, 0⟩ : Estop).sampled false).active = false
      ∧ (((⟨false, true, 0⟩ : Estop).sampled false).sampled false).active = true := by decide

/-- SYNC SELECT MILL in INTERNAL enters QUALIFYING at once. -/
theorem test_sync_select_mill :
    let t := after (.syncSelect 1 1) State.reset
    t.tb.state = .qualifying ∧ reply t = some (.ok, [1, 0]) := by decide +kernel

/-- A CONFIG SET that gives F_off at F_on clamps F_off to F_on − 1, with CLAMPED. -/
theorem test_config_set_clamps :
    let t := after (.configSet 1 [(16, 1, 1000), (17, 1, 1000)]) State.reset
    (t.conf.stands.get 1).fOff = 999 ∧ reply t = some (.clamped, []) := by decide +kernel

/-- A fifth request that meets four queued ones is answered BUSY. -/
theorem test_busy : (after (.ident 9) (onLink (fun l =>
    { l with slot := some (someReply 0 1), queue := List.replicate 4 (1, .ident) }))).link.busy.map (fun r => (r.tag, r.code))
      = [(9, .busy)] := by decide +kernel

/-- A STORE READ that would run past entry 255 is cut, with CLAMPED. -/
theorem test_store_read_cut :
    reply (after (.storeRead 1 0 254 3) State.reset) = some (.clamped, [0, 2, 65535, 65535]) := by decide +kernel

/-- SUBSCRIBE clamps its exponent to 4 to 12. -/
theorem test_subscribe_clamps :
    let t := after (.subscribe 1 3 3) State.reset
    t.link.subNext = some (some ⟨4, [1, 2]⟩) ∧ reply t = some (.clamped, []) := by decide +kernel

/-! ### Witnesses: measurements and the deadline -/

theorem witness_SampleWordKept :
    State.reset.tb.deadlineDone = false ∧ (onTb (fun t => { t with deadlineDone := true })).tb.deadlineDone = true
      ∧ ((6 : Nat) < 21 ∧ State.reset.force.n < 6 / 3 + 1) ∧ ((3 : Nat) / 3 + 1 ≤ State.reset.force.n ∧ 3 % 3 = 0)
      ∧ ((4 : Nat) / 3 + 1 ≤ State.reset.force.n ∧ 4 % 3 = 1) ∧ ((5 : Nat) / 3 + 1 ≤ State.reset.force.n ∧ 5 % 3 = 2)
      ∧ State.reset.tb.cycle.toNat % 2 ^ (State.reset.force.gauges.get (21 - 20)).divider.toNat = 0
      ∧ (let s : State := { onTb (fun t => { t with cycle := 1 }) with
          force := { State.reset.force with gauges := { State.reset.force.gauges with
            g3 := { State.reset.force.gauges.g3 with divider := 1 } } } }
        s.tb.cycle.toNat % 2 ^ (s.force.gauges.get (23 - 20)).divider.toNat ≠ 0) := by decide +kernel

/-- Stand 1 with a gap channel. -/
def withGap (c : Chan) : State := edit 1 (fun st => { st with chans := { st.chans with gap := c } })

/-- A gap channel with a status, an age and a lost condition with its recovery run. -/
def gapChan (status : ChanStatus) (age : Nat) (lost : Bool) (recovery : Nat) (word : Option SampleWord) : Chan :=
  { Chan.reset false with status := status, age := age, lostCond := lost, recovery := recovery, word := word }

/-- A channel of each status and lost condition, with a word taken, with a FAULT word, and with none. -/
theorem witness_DeadlineChannels :
    let w : Option SampleWord := some ⟨40000, .ok⟩
    (onTb (fun t => { t with deadlineDone := true })).tb.deadlineDone = true
      ∧ ((withGap (gapChan .ok 0 false 0 w)).tb.deadlineDone = false ∧ 2 ≤ (withGap (gapChan .ok 0 false 0 w)).force.n)
      ∧ (∀ c ∈ [gapChan .ok 0 false 0 w, gapChan .ok 0 true 0 w, gapChan .ok 0 true 1 w],
        ((withGap c).stand 1).chans.get 0 = c ∧ c.word = some ⟨40000, .ok⟩)
      ∧ (∀ c ∈ [gapChan .ok 0 false 0 none, gapChan .held 2 false 0 none, gapChan .held 3 false 0 none, gapChan .lost 4 true 1 none],
        ((withGap c).stand 1).chans.get 0 = c ∧ c.word = none)
      ∧ ((withGap (gapChan .ok 0 false 0 (some ⟨5, .fault⟩))).stand 1).chans.gap.word = some ⟨5, .fault⟩
      ∧ State.reset.tb.cycle.toNat % 2 ^ (State.reset.force.gauges.get 1).divider.toNat = 0
      ∧ (1 : Nat) % 2 ^ 1 ≠ 0
      ∧ (∀ c ∈ [gapChan .ok 0 false 0 none, gapChan .held 2 false 0 none, gapChan .held 3 false 0 none, gapChan .lost 4 false 0 none],
        ({ State.reset with gauges := State.reset.gauges.set 1 c } : State).gauges.get 1 = c ∧ c.word = none)
      ∧ (State.reset.force.n ≤ 7 ∧ State.reset.link.reports.length + 5 ≤ 32) := by decide +kernel

/-- A gap channel lost at its fourth miss: CHANNEL LOST before SOURCE ACTIVE of its stand (R23). -/
theorem test_lost_reports :
    let s := edit 1 (fun st => { st with chans := { st.chans with gap := gapChan .held 3 false 0 none } })
      (put 1 .parked (put 2 .parked))
    (((after .sampleDeadline s).link.reports.map Report.body).drop 1).take 2
      = [.event .measurement [0, 0, 1], .event .measurement [2, absentMarker, 1]] := by decide +kernel

theorem witness_DeadlineEstimate :
    (∀ x ∈ [StandState.parked, .calibrating, .tripped, .positioning, .ready, .tailout],
      (put 1 x).tb.deadlineDone = false ∧ 1 ≤ (put 1 x).force.n ∧ ((put 1 x).stand 1).ctx.state = x)
      ∧ ((rollSeven fields7).tb.deadlineDone = false ∧ ((rollSeven fields7).stand 1).ctx.state = .rolling
        ∧ ((rollSeven fields7).stand 1).ctx.sched = some fields7) := by decide +kernel

/-- The points of the worked curve at a first point, at an inner point, in the second interval and beyond the last point. -/
theorem witness_StretchOfCurve :
    curve.Pairwise (fun (x y : Int × Int) => x.1 < y.1)
      ∧ curve = (0, 0) :: [(10000, 1800), (20000, 3200)]
      ∧ (curve = [] ++ (0, 0) :: (10000, 1800) :: [(20000, 3200)] ∧ (0 : Int) < 1 ∧ (10000 : Int) ≤ 10000)
      ∧ (curve = [(0, 0)] ++ (10000, 1800) :: (20000, 3200) :: [] ∧ (10000 : Int) < 10001 ∧ (20000 : Int) ≤ 20000)
      ∧ (curve = [(0, 0)] ++ [(10000, 1800), (20000, 3200)] ∧ (20000 : Int) < 20001) := by decide

theorem witness_QuantizedError :
    (rollSeven fields7).tb.deadlineDone = false ∧ 1 ≤ (rollSeven fields7).force.n
      ∧ ((rollSeven fields7).stand 1).ctx.state = .rolling ∧ ((rollSeven fields7).stand 1).ctx.sched = some fields7
      ∧ ((edit 1 (fun st => { st with ctx := { st.ctx with state := .threading } }) (rollSeven fields7)).stand 1).ctx.state
        = .threading := by decide +kernel

/-- The slow slew with the windup hold against the error of the next cycle, and without it; the integrator's error is −68. -/
theorem witness_CorrectionAndReference :
    let s := rollSeven { fields7 with rollSlew := 5 }
    let held := edit 1 (fun st => { st with gcu := { st.gcu with prevClamp := ⟨false, false, false, true⟩ } }) s
    s.tb.deadlineDone = false ∧ (s.stand 1).ctx.sched = some { fields7 with rollSlew := 5 }
      ∧ 0 ≤ ({ fields7 with rollSlew := 5 }.tuned (s.stand 1).gcu.live).rollSlew ∧ (s.stand 1).gcu.prevClamp = .clear
      ∧ (s.stand 1).sc.sMin ≤ (s.stand 1).sc.sMax ∧ (held.stand 1).gcu.prevClamp.outLow = true
      ∧ ((after .sampleDeadline held).stand 1).gcu.q.e = some (-68)
      ∧ ((after .sampleDeadline held).stand 1).gcu.iacc = -2560
      ∧ ((after .sampleDeadline held).stand 1).sc.state ≠ .tripped := by decide +kernel

/-- Stand 1 TRIPPED with an action in force and a previous gap reference. -/
def latched (a : Action) (prev : Option Int) : State :=
  edit 1 (fun st => { st with sc := { st.sc with prevGap := prev }, ctx := { st.ctx with action := a } }) (put 1 .tripped)

theorem witness_TrippedGapReference :
    (∀ a ∈ [Action.hold, .opening, .release],
      (latched a (some 9000)).tb.deadlineDone = false ∧ ((latched a (some 9000)).stand 1).ctx.state = .tripped)
      ∧ ((latched .hold none).stand 1).sc.prevGap = none
      ∧ (let s := latched .opening (some 9000)
        (s.stand 1).sc.sMin ≤ 9000 ∧ 9000 ≤ (s.stand 1).sc.sMax ∧ 0 ≤ (s.force.stands.get 1).escapeSlew
          ∧ 9000 < max (s.stand 1).sc.sMin (min (s.stand 1).sc.sMax (s.force.stands.get 1).escapeGap))
      ∧ (let s := latched .opening (some 60000)
        max (s.stand 1).sc.sMin (min (s.stand 1).sc.sMax (s.force.stands.get 1).escapeGap) ≤ 60000) := by decide +kernel

/-- The schedule staged for every stand. -/
def staged (x : StandSched) (count : Int) : Staged := ⟨⟨7, count, 1000, ⟨x, x, x, x, x, x, x⟩⟩, 0, false⟩

/-- Stand 1 POSITIONING toward the staged schedule's 9,550 µm, with a first reference, a previous one and a run. -/
def positioned (start prev : Option Int) (run : Nat) (gap : Int) : State :=
  let x := { fields7 with sBase := 9400, rollSlew := 60 }
  { edit 1 (fun st =>
      { st with
        sc := { st.sc with target := .staged, prevGap := prev, posRun := run }
        gcu := { st.gcu with zero := 150 }
        chans := { st.chans with gap := { st.chans.gap with value := gap } }
        ctx := { st.ctx with target := some x, zero := 150, start := start, startSpeed := some 0 } }) (put 1 .positioning) with
    images := { State.reset.images with staged := some (staged x 2) } }

/-- The worked arming: the first cycle, a slewing one, and those that count; the seventh and the eighth of the run. -/
theorem witness_PositioningRun :
    (∀ s ∈ [positioned (some 9300) none 0 9301, positioned none (some 9480) 0 9489, positioned none (some 9550) 6 9590,
        positioned none (some 9550) 7 9510],
      s.tb.deadlineDone = false ∧ 1 ≤ s.force.n ∧ 1 ≤ s.conf.n ∧ 1 ≤ s.lowN ∧ s.track.bars = [] ∧ (s.stand 1).ctx.state = .positioning
        ∧ (s.stand 1).sc.state = .positioning ∧ (s.stand 1).ctx.target = s.targetSched 1 ∧ (s.targetSched 1).isSome = true
        ∧ (s.stand 1).ctx.zero = (s.stand 1).gcu.zero ∧ (s.stand 1).sc.sMin ≤ 9300 ∧ 9550 ≤ (s.stand 1).sc.sMax
        ∧ ((after .sampleDeadline s).stand 1).sc.state ≠ .tripped)
      ∧ ((after .sampleDeadline (positioned none (some 9480) 0 9489)).stand 1).sc.gapRef = some 9540
      ∧ ((after .sampleDeadline (positioned none (some 9550) 7 9510)).stand 1).sc.state = .ready := by decide +kernel

/-- Stand 1 READY short of its target gap, and within one slew of it; in TAILOUT with and without a previous reference; PARKED with
limits waiting, and READY with limits waiting. -/
theorem witness_PositioningRun_others :
    let state (x : StandState) (s : State) : State :=
      edit 1 (fun st => { st with sc := { st.sc with state := x, limWait := true }, ctx := { st.ctx with state := x } }) s
    let sc (s : State) : StandRec := ((after .sampleDeadline s).stand 1).sc
    let far := state .ready (positioned none (some 9480) 0 9489)
    let away := state .tailout (positioned none (some 9100) 0 9100)
    let still := state .parked (positioned none none 0 9100)
    let moved : State := { still with conf := { still.conf with stands := still.conf.stands.set 1 { still.conf.stands.get 1 with sMin := 77 } } }
    (far.tb.deadlineDone = false ∧ 1 ≤ far.force.n ∧ (far.stand 1).ctx.start = none ∧ (far.stand 1).ctx.target.isSome = true
        ∧ (far.stand 1).sc.sMin ≤ 9100 ∧ 9550 ≤ (far.stand 1).sc.sMax)
      ∧ ((sc far).gapRef = some 9540 ∧ (sc far).limWait = true)
      ∧ (sc (state .ready (positioned none (some 9500) 0 9489))).gapRef = some 9550
      ∧ ((sc away).gapRef = some 9100 ∧ (sc (state .tailout (positioned none none 0 9100))).gapRef = none)
      ∧ ((sc still).gapRef = none ∧ (still.stand 1).sc.limWait = true)
      ∧ ((moved.stand 1).sc.sMin ≠ 77 ∧ (sc moved).sMin = 77 ∧ (sc moved).limWait = false) := by decide +kernel

/-- Stand 1 THREADING with a thread count and a first sign; the mask is 3, the limit 40 and the raw error −70. -/
def threading (count : Nat) (sign : Sign) : State :=
  edit 1 (fun st =>
    { st with
      sc := { st.sc with state := .threading, threadCount := count, firstSign := sign, nMask := 3, threadLimit := 40 }
      ctx := { st.ctx with state := .threading } }) (rollSeven fields7)

/-- The exit, the last masked cycle, the first unmasked one, and the cycles 39 and 40. -/
theorem witness_ThreadingExit :
    (∀ s ∈ [threading 4 .positive, threading 3 .positive, threading 4 .nothing, threading 39 .negative, threading 40 .negative],
      s.tb.deadlineDone = false ∧ 1 ≤ s.force.n ∧ 1 ≤ s.conf.n ∧ 1 ≤ s.lowN ∧ (s.stand 1).ctx.state = .threading
        ∧ (s.stand 1).sc.state = .threading ∧ (s.stand 1).ctx.sched = some fields7
        ∧ ((after .sampleDeadline s).stand 1).sc.state ≠ .tripped ∧ (after .sampleDeadline s).track.held = [])
      ∧ ((after .sampleDeadline (threading 3 .positive)).stand 1).sc.state = .threading
      ∧ (let sent (s : State) : List ReportBody := ((after .sampleDeadline s).link.reports.map Report.body).filter (fun b =>
          match b with
          | .event .standState f => f.head? == some 1
          | .event .threadTimeout _ => true
          | _ => false)
        sent (threading 4 .positive) = [.event .standState [1, 4, 5, 6, absentMarker]]
          ∧ sent (threading 40 .negative)
            = [.event .standState [1, 4, 5, 7, absentMarker], .event .threadTimeout [1, absentMarker, -70]]) := by decide +kernel

/-- Stand 1 and stand 2 in the cascade on a bar, stand 2 with a mode. -/
def pair (mode : Mode) (bar : Nat) : State :=
  edit 2 (fun st =>
    { st with ctx := { st.ctx with state := .rolling, served := some bar, sched := some { fields7 with mode := mode } } })
    (edit 1 (fun st => { st with ctx := { st.ctx with served := some 22 }, scu := { st.scu with prevSpeed := some 9000 } })
      (rollSeven fields7))

theorem witness_DeadlineSpeed :
    (∀ x ∈ [StandState.parked, .calibrating, .tailout, .tripped, .positioning, .ready],
      (put 1 x).tb.deadlineDone = false ∧ ((put 1 x).stand 1).ctx.state = x)
      ∧ (∀ a ∈ [Action.hold, .opening, .release], ((latched a none).stand 1).ctx.action = a)
      ∧ (((positioned (some 9300) none 0 0).stand 1).scu.prevSpeed = none
        ∧ ((positioned (some 9300) none 0 0).stand 1).ctx.startSpeed = some 0
        ∧ (((positioned none none 0 0).stand 1).ctx.target).isSome = true)
      ∧ (((pair .single 22).stand 1).ctx.state = .rolling ∧ ((pair .single 22).stand 1).ctx.sched = some fields7
        ∧ ((pair .single 22).stand 1).scu.prevSpeed = some 9000 ∧ 0 ≤ ((pair .single 22).force.stands.get 1).speedSlew)
      ∧ (train.force.n ≤ 7 ∧ train.trimSum 5 = -2000 ∧ (pair .successive 23).trimSum 1 = 0) := by decide +kernel

/-- Stand 1 CALIBRATING in a phase with a force, a gap reference before and a hold count; kiss force 2,000 kN, start 2,300 µm. -/
def calibrating (phase : Phase) (force prev : Int) (count : Nat) (result : CalResult) : State :=
  edit 1 (fun st =>
    { st with
      sc := { st.sc with prevGap := some prev }
      cal := { Cal.reset with
        phase := phase, kissForce := 2000, closeRate := 20, startGap := 2300, kissRef := some 140, holdCount := count
        result := result, candidate := some 524 }
      chans := { st.chans with
        force := { st.chans.force with value := force }, gap := { st.chans.gap with value := prev } }
      ctx := { st.ctx with phase := phase } }) (put 1 .calibrating)

/-- Cycle 40,109 of the worked calibration: the reference falls to 140 µm, and 2,030 kN is the kiss. -/
theorem test_kiss :
    let c := ((after .sampleDeadline (calibrating .closing 2030 160 0 .ok)).stand 1).cal
    c.phase = .holding ∧ c.kissRef = some 140 := by decide +kernel

/-- Closing on, kissing, closing without a kiss at S_min; holding at the ends of the band, outside, and for the 64th time; opening on
and ending; a first cycle; a channel LOST. -/
theorem witness_CalibrationCycle :
    (∀ s ∈ [calibrating .closing 1999 160 0 .ok, calibrating .closing 2000 160 0 .ok, calibrating .closing 0 20 0 .ok,
        calibrating .holding 1800 140 62 .ok, calibrating .holding 2400 140 0 .ok, calibrating .holding 1799 140 0 .ok,
        calibrating .holding 2401 140 0 .ok, calibrating .opening 0 140 64 .ok, calibrating .opening 0 2140 64 .ok,
        calibrating .opening 0 2140 0 .unsteady],
      s.tb.deadlineDone = false ∧ 1 ≤ s.force.n ∧ 1 ≤ s.conf.n ∧ 1 ≤ s.lowN ∧ (s.stand 1).ctx.state = .calibrating
        ∧ (s.stand 1).sc.state = .calibrating ∧ (s.stand 1).cal.phase = (s.stand 1).ctx.phase ∧ (s.stand 1).ctx.start = none
        ∧ (s.stand 1).sc.sMin ≤ 20 ∧ 2300 ≤ (s.stand 1).sc.sMax ∧ 0 ≤ (s.force.stands.get 1).escapeSlew
        ∧ ((after .sampleDeadline s).stand 1).sc.state ≠ .tripped
        ∧ ((after .sampleDeadline s).stand 1).chans.gap.status ≠ .lost
        ∧ ((after .sampleDeadline s).stand 1).chans.force.status ≠ .lost)
      ∧ ((calibrating .closing 0 20 0 .ok).stand 1).sc.sMin ≤ 20
      ∧ (let s := edit 1 (fun st => { st with ctx := { st.ctx with start := some 160 } }) (calibrating .closing 2000 160 0 .ok)
        (s.stand 1).ctx.start = some 160 ∧ (s.stand 1).sc.sMin ≤ 160 ∧ 160 ≤ (s.stand 1).sc.sMax
          ∧ ((after .sampleDeadline s).stand 1).cal.phase = .holding)
      ∧ (let s := edit 1 (fun st => { st with chans := { st.chans with force := { st.chans.force with status := .lost } } })
            (calibrating .closing 2000 160 0 .ok)
        ((after .sampleDeadline s).stand 1).chans.force.status = .lost ∧ ((after .sampleDeadline s).stand 1).sc.state ≠ .tripped)
      ∧ ((after .sampleDeadline (calibrating .holding 2000 140 63 .ok)).stand 1).cal.phase = .opening := by decide +kernel

/-- Stand 1 in a state with load runs and a force. -/
def loading (x : StandState) (known loaded : Bool) (on off : Nat) (force : Int) : State :=
  edit 1 (fun st =>
    { st with
      sc := { st.sc with loadKnown := known, loaded := loaded, loadOnRun := on, loadOffRun := off }
      chans := { st.chans with force := { st.chans.force with value := force } } }) (put 1 x)

theorem witness_LoadDetection :
    let fOn := (State.reset.force.stands.get 1).fOn
    let fOff := (State.reset.force.stands.get 1).fOff
    (∀ s ∈ [loading .ready false false 0 0 fOn, loading .ready true false 1 0 (fOn - 1), loading .ready true false 0 0 fOn,
        loading .ready true false 1 0 fOn, loading .rolling true true 0 2 fOff, loading .rolling true true 0 1 (fOff - 1),
        loading .rolling true true 0 2 (fOff - 1), loading .threading true true 0 2 (fOff - 1)],
      s.tb.deadlineDone = false ∧ 1 ≤ s.force.n ∧ 1 ≤ s.conf.n ∧ 1 ≤ s.lowN
        ∧ ((after .sampleDeadline s).stand 1).chans.force.status ≠ .lost)
      ∧ ((after .sampleDeadline State.reset).stand 1).chans.force.status = .lost
      ∧ (after .sampleDeadline (loading .ready true false 1 0 fOn)).track.held = [⟨1, true⟩]
      ∧ (after .sampleDeadline (loading .rolling true true 0 2 (fOff - 1))).track.held = [⟨1, false⟩] := by decide +kernel

/-! ### Witnesses: the tracker -/

/-- A train of `n` stands with 1,000 mm zones and one segment, of bar 7 whose tail is born, moving 9,360 µm in a cycle. -/
def lone (n zone : Nat) (kind : SegKind) (dist : Int) : State :=
  let s := edit zone (fun st =>
    { st with chans := { st.chans with speed := { st.chans.speed with value := 9360, status := .ok } } })
  { s with
    force := { s.force with standCount := n, zones := ⟨1000, 1000, 1000, 1000, 1000, 1000⟩, release := 2000 }
    tb := { s.tb with deadlineDone := true, lastLen := 1000 }
    track := { s.track with
      bars := [{ id := 7, copy := 0, slot := 0, furthest := 2, missed := none, tailBorn := true, trackFull := false
                 deferred := false }]
      segs := [{ seq := 5, bar := 7, kind := kind, zone := zone, dist := dist, birth := 0, ests := [], reads := [] }] } }

/-- A body short of the zone's end by 1 µm and at it; one in the last zone short of the release point by 1 µm and at it. -/
theorem witness_TrackerAdvance :
    ((lone 2 2 .tail 2000000).track.segs.map Seg.kind = [.tail]
        ∧ (lone 2 2 .tail 2000000).force.release * 1000 ≤ 2000000 ∧ (lone 2 2 .tail 2000000).force.n = 2)
      ∧ (lone 3 1 .body 1000000).force.zones.get 1 * 1000 ≤ 1000000
      ∧ State.reset.tb.deadlineDone = false ∧ (onTb (fun t => { t with updateDone := true })).tb.updateDone = true
      ∧ (∀ s ∈ [lone 3 1 .body 990639, lone 3 1 .body 990640, lone 2 2 .tail 1990639, lone 2 2 .tail 1990640],
        s.tb.deadlineDone = true ∧ s.tb.updateDone = false ∧ s.placedGauges = [] ∧ ∀ b ∈ s.track.bars, b.tailBorn = true)
      ∧ ((after .trackerUpdate (lone 3 1 .body 990639)).track.segs.map Seg.pos = [(1, 999999)]
        ∧ (after .trackerUpdate (lone 3 1 .body 990640)).track.segs.map Seg.pos = [(2, 0)]
        ∧ (after .trackerUpdate (lone 2 2 .tail 1990639)).track.segs.map Seg.pos = [(2, 1999999)]
        ∧ (after .trackerUpdate (lone 2 2 .tail 1990640)).track.bars = []) := by decide +kernel

/-- A train of two stands with a bound gauge at 1,000 mm in zone 2, READY to use, and a segment at the gauge with an estimate of
stand 2, which is in ROLLING; and the segment 1 µm before the gauge. -/
def gauged : State × Seg :=
  let s := edit 2 (fun st => { st with ctx := { st.ctx with state := .rolling } }) (lone 2 2 .body 1000000)
  let x : Seg := { seq := 5, bar := 7, kind := .body, zone := 2, dist := 1000000, birth := 0
                   ests := [⟨2, some 4770, 4700, false⟩], reads := [] }
  ({ s with
    force := { s.force with gauges := { s.force.gauges with g1 := ⟨2, 1000, 1, 0, ⟨65536, 0⟩⟩ } }
    gauges := { s.gauges with g1 := { s.gauges.g1 with status := .ok, value := 4775, lastSample := some 0 } }
    track := { s.track with segs := [x] } }, { x with dist := 999999 })

/-- The segment, usable and not; and two segments over the gauge in one movement. -/
theorem witness_GaugePassing :
    let s := gauged.1
    let x2 : Seg := { gauged.2 with seq := 6, dist := 1000000 }
    s.placedGauges = [1] ∧ (s.gauges.get 1).status ≠ .lost ∧ (s.gauges.get 1).lastSample = some s.tb.cycle
      ∧ s.track.segs.map Seg.seq = [gauged.2.seq] ∧ (s.force.gauges.get 1).bound ≠ 0 ∧ (s.stand 2).ctx.state = .rolling
      ∧ (s.passAll [gauged.2]).track.segs.map (fun x => x.reads) = [[⟨1, 4775⟩]]
      ∧ (let two : State := { s with track := { s.track with segs := s.track.segs ++ [x2] } }
        two.placedGauges = [1] ∧ two.track.segs.map Seg.seq = [5, 6]
          ∧ (two.passAll [gauged.2, { x2 with dist := 999999 }]).track.segs.map (fun x => x.reads.length) = [1, 1]) := by
  decide +kernel

/-- Stand 2 in TAILOUT on bar 7 with a target, the bar's tail at a distance. -/
def tailing (target : Target) (dist : Int) : State :=
  edit 2 (fun st => { st with sc := { st.sc with served := some 7, target := target } })
    { put 2 .tailout with force := { (lone 2 2 .tail dist).force with clearance := 500 }, track := (lone 2 2 .tail dist).track }

/-- A newest segment one pitch into zone 1, with room and with a full queue; a head 1 µm beyond its window; and a tail at its
clearance and 1 µm before it, with and without a target. -/
theorem witness_BirthsAndEnds :
    (256 ≤ (List.replicate 256 gauged.2).length)
      ∧ (let s : State := { lone 2 1 .head 1000000 with
        images := { State.reset.images with copy0 := some ⟨(staged fields7 2).sched, 0⟩ }
        track := { (lone 2 1 .head 1000000).track with
          bars := (lone 2 1 .head 1000000).track.bars.map (fun b => { b with tailBorn := false }) } }
      (s.track.current.map Bar.id = some 7 ∧ (s.track.newest 7).map Seg.pos = some (1, 1000000)
          ∧ (s.barCopy 7).map Sched.pitch = some 1000)
        ∧ (State.bodyBirths 257 s).track.segs.map Seg.pos = [(1, 1000000), (1, 0)])
      ∧ (let s : State := { lone 2 2 .head 0 with
        images := { State.reset.images with copy0 := some ⟨(staged fields7 2).sched, 0⟩ }
        track := { (lone 2 2 .head 0).track with
          bars := (lone 2 2 .head 0).track.bars.map (fun b => { b with tailBorn := false, deferred := true }) } }
      (s.track.current.map Bar.deferred = some true ∧ (s.track.newest 7).map Seg.zone = some 2
          ∧ (s.barCopy 7).map Sched.pitch = some 1000 ∧ s.track.segs.length < 256)
        ∧ (State.bodyBirths 257 s).track.segs.map Seg.pos = [(2, 0), (1, 0)])
      ∧ (let s : State := { lone 2 1 .head 1400001 with force := { (lone 2 1 .head 1400001).force with wHead := 400 } }
        (s.track.bar? 7).map Bar.missed = some none ∧ s.track.held = [] ∧ s.declareMissed.2 = [⟨.headMissed, some 2, some 7⟩])
      ∧ (∀ s ∈ [tailing .nothing 499999, tailing .nothing 500000, tailing .staged 500000],
        s.tb.endTests = false ∧ s.track.held = [] ∧ 2 ≤ s.force.n ∧ 2 ≤ s.conf.n ∧ 2 ≤ s.lowN
          ∧ (s.stand 2).ctx.state = .tailout ∧ (s.stand 2).sc.state = .tailout)
      ∧ ((tailing .nothing 499999).endTests.stand 2).sc.state = .tailout
      ∧ ((tailing .nothing 500000).endTests.stand 2).sc.state = .parked
      ∧ ((tailing .staged 500000).endTests.stand 2).sc.state = .positioning := by decide +kernel

/-- Stand 2 in a state on bar 7, whose tail lies at the release point, with or without a staged schedule. -/
def ending (x : StandState) (next : Bool) : State :=
  let s := edit 2 (fun st => { st with sc := { st.sc with served := some 7, loaded := true } }) (put 2 x)
  { s with
    force := (lone 2 2 .tail 2000000).force, track := (lone 2 2 .tail 2000000).track
    images := { State.reset.images with staged := if next then some (staged fields7 2) else none } }

/-- A bar released under a loaded stand that rolls it, one in TAILOUT and a TRIPPED one, with a target and without. -/
theorem witness_BirthsAndEnds_released :
    let s := ending .rolling true
    let gone (y : Seg) : Bool := decide (y.zone = s.force.n ∧ s.force.release * 1000 ≤ y.dist)
    ((s.track.segs.filter gone).map Seg.kind = [.tail] ∧ (s.track.bar? 7).map Bar.id = some 7
        ∧ (s.stand 2).sc.served = some 7 ∧ 2 ≤ s.conf.n)
      ∧ (s.release.1.track.bars = [] ∧ s.release.1.track.segs = [] ∧ s.release.2 = [⟨.unexpectedLoad, some 2, none⟩])
      ∧ ([(.rolling, true), (.threading, false), (.tailout, true), (.tailout, false), (.tripped, true)].map
          (fun (p : StandState × Bool) =>
            let r := (ending p.1 p.2).release
            ((r.1.stand 2).sc.state, (r.1.stand 2).sc.served, r.2.length, (r.1.link.reports.map Report.body).tail))
        = [(.positioning, none, 1, [.event .standState [2, 5, 2, 10, 7]]), (.parked, none, 1, [.event .standState [2, 4, 0, 10, 7]]),
          (.positioning, none, 0, [.event .standState [2, 6, 2, 9, 7]]), (.parked, none, 0, [.event .standState [2, 6, 0, 4, 7]]),
          (.tripped, none, 0, [])]) := by decide +kernel

/-- The reset state past the update of its cycle, with one held load change. -/
def heldChange (k : Nat) (on : Bool) (s : State) : State :=
  { s with tb := { s.tb with deadlineDone := true, updateDone := true }, track := { s.track with held := [⟨k, on⟩] } }

/-- Stand 1 READY with a staged schedule; the head of bar 7 at the two ends of stand 2's window; stand 1 ROLLING bar 7. -/
theorem witness_LoadChangeJudged :
    State.reset.tb.updateDone = false
      ∧ (let s : State := { heldChange 1 true (put 1 .ready) with
          images := { State.reset.images with staged := some (staged fields7 2) } }
        (s.tb.updateDone = true ∧ s.track.held = [⟨1, true⟩] ∧ (s.stand 1).sc.state = .ready
            ∧ s.images.staged = some (staged fields7 2) ∧ s.images.copy0 = none ∧ s.track.segs = [] ∧ s.track.bars = []
            ∧ 0 ≤ s.force.zones.z1 ∧ 0 ≤ s.force.wHead)
          ∧ ((after (.loadChangeJudged 1) s).stand 1).sc.state = .threading)
      ∧ (∀ d ∈ [(700000 : Int), 1400000],
        let s := heldChange 2 true (edit 2 (fun st => { st with sc := { st.sc with target := .bar 7 } })
            { put 2 .ready with
              force := { (lone 2 1 .head d).force with wEarly := 300, wHead := 400 }
              track := { (lone 2 1 .head d).track with
                bars := (lone 2 1 .head d).track.bars.map (fun b => { b with furthest := 1 }) } })
        (s.track.held = [⟨2, true⟩] ∧ (s.stand 2).sc.state = .ready ∧ (s.stand 2).sc.target = .bar 7 ∧ s.placedGauges = []
            ∧ 2 ≤ s.force.n ∧ 0 ≤ s.force.zones.get 2
            ∧ s.force.zones.get 1 * 1000 - s.force.wEarly * 1000 ≤ d ∧ d ≤ s.force.zones.get 1 * 1000 + s.force.wHead * 1000)
          ∧ ((after (.loadChangeJudged 2) s).stand 2).sc.state = .threading)
      ∧ (let s := heldChange 1 false (edit 1 (fun st => { st with sc := { st.sc with served := some 7 } })
            { put 1 .rolling with track := (lone 2 1 .body 5000).track })
        (s.track.held = [⟨1, false⟩] ∧ (s.stand 1).sc.state = .rolling ∧ (s.stand 1).ctx.state = .rolling
            ∧ (s.stand 1).sc.served = some 7 ∧ (s.track.bar? 7).isSome = true ∧ s.track.segs.length < 256
            ∧ s.declareMissed.2 = [])
          ∧ ((after (.loadChangeJudged 1) s).stand 1).sc.state = .tailout) := by decide +kernel

/-- Stand 2 READY on bar 7, whose head lies at a distance of zone 1. -/
def heading (dist : Int) : State :=
  edit 2 (fun st => { st with sc := { st.sc with target := .bar 7 } })
    { put 2 .ready with
      force := { (lone 2 1 .head dist).force with wEarly := 300, wHead := 400 }
      track := (lone 2 1 .head dist).track }

/-- Stand 2 ROLLING bar 7, whose tail lies at a distance of a zone, with W_tail 400 mm. -/
def leaving (zone : Nat) (dist : Int) : State :=
  edit 2 (fun st => { st with sc := { st.sc with served := some 7 } })
    { put 2 .rolling with
      force := { (lone 3 zone .tail dist).force with wTail := 400 }, track := (lone 3 zone .tail dist).track }

/-- A head at the two ends of its window and 1 µm outside; a bar without a tail at a load-on, with room and with a full queue; a tail
at the two ends of its window, beyond it and before it. -/
theorem witness_LoadChangeOutcomes :
    (∀ d ∈ [(700000 : Int), 1400000], (heading d).placedGauges = [] ∧ ((heading d).headArrives 2).2 = [])
      ∧ (∀ d ∈ [(699999 : Int), 1400001], ((heading d).headArrives 2).2 = [⟨.unexpectedLoad, some 2, some 7⟩])
      ∧ (let s : State := { lone 2 1 .body 5000 with track := { (lone 2 1 .body 5000).track with
            bars := (lone 2 1 .body 5000).track.bars.map (fun b => { b with tailBorn := false }) } }
        let full : State := { s with track := { s.track with segs := List.replicate 256 gauged.2 } }
        (s.track.current.map Bar.id = some 7 ∧ s.track.segs.length < 256) ∧ (full.track.newest 7).isSome = true
          ∧ s.oldTail.track.segs.map Seg.kind = [.body, .tail]
          ∧ 2 ≤ (s.track.bars ++ s.track.bars).length)
      ∧ State.reset.track.current = none
      ∧ (∀ s ∈ [leaving 1 600000, leaving 2 400000],
        s.placedGauges = [] ∧ (s.stand 2).sc.served = some 7 ∧ ((s.tailLeaves 2).1.track.segs.map Seg.pos) = [(2, 0)])
      ∧ ((leaving 2 400001).tailLeaves 2).1.track = (leaving 2 400001).track
      ∧ ((leaving 1 599999).tailLeaves 2).2 = [⟨.loadLost, some 2, some 7⟩] := by decide +kernel

/-- With a full queue whose newest segment is the HEAD of bar 7, its TAIL at stand 1 leaves the bar without a head: its furthest stand
is N, and it is no stand's target, at a load-off and at a load-on. A gauge in zone 1 at 990 mm is passed by a body that a snap
moves from 989 to 999 mm. -/
theorem witness_LoadChangeOutcomes_headless :
    let body : Seg := { gauged.2 with seq := 1, bar := 6 }
    let head : Seg := { gauged.2 with seq := 9, kind := .head, zone := 1, dist := 50, ests := [] }
    let full : State := edit 1 (fun st => { st with sc := { st.sc with served := some 7 } })
      (edit 2 (fun st => { st with sc := { st.sc with target := .bar 7 } })
        { put 1 .rolling (put 2 .positioning) with
          track := { State.reset.track with
            bars := [{ id := 7, copy := 0, slot := 0, furthest := 1, missed := none, tailBorn := false, trackFull := false
                       deferred := false }]
            segs := List.replicate 255 body ++ [head] } })
    let snap : State := { heading 990000 with
      force := { (heading 990000).force with gauges := { State.reset.force.gauges with g1 := ⟨1, 990, 0, 0, ⟨65536, 0⟩⟩ } }
      gauges := State.reset.gauges.set 1 { State.reset.gauges.g1 with status := .ok, value := 4775, lastSample := some 0 }
      track := { (heading 990000).track with segs := (heading 990000).track.segs ++ [{ head with kind := .body, dist := 989000 }] } }
    ((full.stand 1).sc.served = some 7 ∧ full.track.current.map Bar.id = some 7 ∧ 256 ≤ full.track.segs.length
        ∧ (full.track.newest 7).map Seg.kind = some .head ∧ full.conf.n ≤ full.force.n)
      ∧ ([full.oldTail, (full.tailLeaves 1).1].map (fun t => (t.track.bars.map Bar.furthest, (t.stand 2).sc.target,
          (t.track.newest 7).map Seg.kind)) = [([2], .nothing, some .tail), ([2], .nothing, some .tail)])
      ∧ (snap.placedGauges = [1] ∧ (snap.headArrives 2).2 = []
        ∧ (snap.headArrives 2).1.track.segs.map (fun x => (x.pos, x.reads)) = [((2, 0), []), ((1, 999000), [⟨1, 4775⟩])]) := by
  decide +kernel

/-! ### Witnesses: the table store -/

/-- The reset state with an operation in flight. -/
def inFlight (kind : OpKind) (slot : Nat) (step : OpStep) (rest : List OpStep) (s : State := State.reset) : State :=
  { s with store := { s.store with op := some ⟨kind, slot, step, rest⟩, mark := some slot } }

theorem reset_canonical : State.reset.memoriesCanonical := ⟨rfl, rfl, rfl⟩

/-- The part of canonical form that a test decides. -/
def canonical (s : State) : Bool :=
  Memory.wf erasedEntry s.store.cells && Memory.wf SlotRec.blank s.store.slots && Memory.wf 0 s.trace.mem

/-- Slots 39 and 40, a busy store, a schedule slot named by the staged buffer, a curve slot bound by an armed stand; an erase that
reads back clean and one that does not. -/
theorem witness_StoreErase :
    let named : State := { State.reset with images := { State.reset.images with staged := some (staged fields7 2) } }
    State.reset.ready ∧ (39 : Nat) < (40 : Byte).toNat ∧ (39 : Byte).toNat ≤ 39
      ∧ (inFlight .write 3 (.write 0 ⟨1, 2, 3, 4⟩) []).store.op ≠ none
      ∧ (named.store.op = none ∧ (staged fields7 2).slot = 0)
      ∧ ((put 1 .ready).store.op = none ∧ ((put 1 .ready).conf.stands.get 1).curveSlot + 32 = 32
        ∧ ((put 1 .ready).stand 1).sc.state ≠ .parked)
      ∧ State.reset.inUse 39 = false
      ∧ (∀ op, State.reset.store.op = some op → op.kind ≠ .erase)
      ∧ ((inFlight .erase 39 .erase []).store.op = some ⟨.erase, 39, .erase, []⟩ ∧ canonical (inFlight .erase 39 .erase []) = true
        ∧ (Instr.storeEraseDone []).wellFormed = true ∧ (Instr.storeEraseDone [(255, 7), (0, 65535)]).wellFormed = true) :=
  ⟨reset_ready, by decide, by decide, by decide, by decide, by decide +kernel, by decide +kernel, by simp [State.reset, Store.erased],
    by decide +kernel⟩

theorem witness_StoreWrite :
    let slot (x : SlotState) : State := { State.reset with store := { State.reset.store with slots := [(35, ⟨x, 0, 0, true⟩)] } }
    (State.reset.ready ∧ (39 : Nat) < (40 : Byte).toNat ∧ (62 : Nat) < (63 : Byte).toNat ∧ (62 : Byte).toNat ≤ 62)
      ∧ (canonical (open35 63) = true ∧ ((open35 63).store.slotRec 35).cursor = 63)
      ∧ ((put 1 .ready).inUse 32 = true ∧ (put 1 .ready).inUse 35 = false)
      ∧ (canonical (slot .valid) = true ∧ ((slot .valid).store.slotRec 35).state = .valid)
      ∧ ((slot .damaged).store.slotRec 35).state = .damaged ∧ (State.reset.store.slotRec 35).state = .blank
      ∧ (((open35 2).store.slotRec 35).map.getLsbD 1 = true ∧ ((open35 2).store.slotRec 35).map.getLsbD 62 = false)
      ∧ (∀ op, State.reset.store.op = some op → op.kind ≠ .write)
      ∧ (let s := inFlight .write 35 (.write 62 ⟨1, 2, 3, 4⟩) [] (open35 2)
        s.store.op = some ⟨.write, 35, .write 62 ⟨1, 2, 3, 4⟩, []⟩ ∧ canonical s = true
          ∧ (Instr.storeWriteDone []).wellFormed = true ∧ (Instr.storeWriteDone [(248, 1), (251, 0)]).wellFormed = true) :=
  ⟨⟨reset_ready, by decide, by decide, by decide⟩, by decide +kernel, by decide +kernel, by decide +kernel, by decide +kernel,
    by decide +kernel, by decide +kernel, by simp [State.reset, Store.erased], by decide +kernel⟩

theorem witness_StoreClose :
    (State.reset.ready ∧ (39 : Nat) < (40 : Byte).toNat ∧ (39 : Byte).toNat ≤ 39 ∧ (State.reset.store.slotRec 39).state ≠ .opened)
      ∧ (inFlight .erase 3 .erase []).store.op ≠ none
      ∧ ((open35 2).store.op = none ∧ ((open35 2).store.slotRec 35).state = .opened)
      ∧ (∀ op, State.reset.store.op = some op → op.kind ≠ .close)
      ∧ (let s := inFlight .close 35 .close [] (open35 2)
        s.store.op = some ⟨.close, 35, .close, []⟩ ∧ canonical s = true ∧ (Instr.storeCloseDone []).wellFormed = true
          ∧ (Instr.storeCloseDone [(252, 0), (255, 0)]).wellFormed = true) :=
  ⟨⟨reset_ready, by decide, by decide, by decide +kernel⟩, by decide, by decide +kernel, by simp [State.reset, Store.erased],
    by decide +kernel⟩

theorem witness_Saves :
    let d : Quad := ⟨1, 2, 3, 4⟩
    (∀ op, State.reset.store.op = some op → op.kind ≠ .calSave ∧ op.kind ≠ .configSave)
      ∧ canonical (inFlight .calSave 40 .erase [.write 0 d, .write 1 d, .close]) = true
      ∧ (inFlight .configSave 41 (.write 62 d) [.close]).store.op = some ⟨.configSave, 41, .write 62 d, .close :: []⟩
      ∧ (inFlight .calSave 40 (.write 0 d) [.write 1 d, .close]).store.op = some ⟨.calSave, 40, .write 0 d, .write 1 d :: [.close]⟩
      ∧ (inFlight .calSave 40 .close []).store.op = some ⟨.calSave, 40, .close, []⟩
      ∧ ((inFlight .calSave 40 .erase [.close]).store.op = some ⟨.calSave, 40, .erase, [.close]⟩ ∧ (255 : Nat) < 256
        ∧ (0 : Entry) ≠ 65535#16)
      ∧ ((4 * 62 : Nat) ≤ 248 ∧ (251 : Nat) ≤ 4 * 62 + 3 ∧ (9 : Entry) ≠ ([d.e0, d.e1, d.e2, d.e3] : List Entry).getD (251 - 4 * 62) 0)
      ∧ ((252 : Nat) ≤ 254 ∧ (0 : Entry) ≠ if 254 = 255 then State.reset.store.slotCrc 40 else 65535#16)
      ∧ (State.reset.ready ∧ State.reset.store.op = none ∧ (inFlight .erase 3 .erase []).store.op ≠ none)
      ∧ ((edit 1 (fun st => { st with gcu := { st.gcu with zeroKnown := true } })).stand 1).gcu.zeroKnown = true
      ∧ ((State.reset.stand 7).gcu.zeroKnown = false ∧ (State.reset.store.slotRec 40).state ≠ .valid)
      ∧ (({ State.reset.store with slots := [(40, ⟨.valid, 0, 0, false⟩)] } : Store).slotRec 40).state = .valid :=
  ⟨by simp [State.reset, Store.erased], by decide +kernel, rfl, rfl, rfl, ⟨rfl, by decide, by decide⟩, by decide, by decide,
    ⟨reset_ready, rfl, by decide⟩, by decide +kernel, by decide +kernel, by decide +kernel⟩

/-! ### Witnesses: the requests -/

theorem witness_RequestsThatRead :
    State.reset.ready ∧ (∀ p ∈ ([(1, 0), (16, 7)] : List (Byte × Byte)), fieldExists p.1.toNat p.2.toNat = true)
      ∧ fieldExists 16 8 = false ∧ ((1 : Nat) ≤ (2 : Byte).toNat ∧ (2 : Byte).toNat ≤ State.reset.conf.n)
      ∧ (4 : Nat) < (5 : Byte).toNat ∧ State.reset.conf.n < (3 : Byte).toNat :=
  ⟨reset_ready, List.all_eq_true.1 (by decide +kernel : List.all _ (fun (p : Byte × Byte) => fieldExists p.1.toNat p.2.toNat) = true),
    by decide +kernel, by decide +kernel, by decide +kernel, by decide +kernel⟩

theorem witness_RequestsThatRead_queues :
    State.reset.ready ∧ State.reset.track.segs.length < (1 : BitVec 16).toNat
      ∧ (0 : BitVec 16).toNat ≤ State.reset.track.segs.length
      ∧ State.reset.trips.records.length < (2 : Byte).toNat ∧ (1 : Byte).toNat ≤ State.reset.trips.records.length :=
  ⟨reset_ready, by decide +kernel, by decide +kernel, by decide +kernel, by decide +kernel⟩

theorem witness_RequestsThatRead_store :
    State.reset.ready ∧ (41 : Nat) < (42 : Byte).toNat ∧ (41 : Byte).toNat ≤ 41
      ∧ (∃ op, (inFlight .calSave 40 .erase []).store.op = some op ∧ op.slot = (40 : Byte).toNat)
      ∧ ¬∃ op, State.reset.store.op = some op ∧ op.slot = (41 : Byte).toNat :=
  ⟨reset_ready, by decide +kernel, by decide +kernel, ⟨_, rfl, rfl⟩, by simp [State.reset, Store.erased]⟩

/-- The copy of the configuration that the items of a CONFIG SET make. -/
def copyOf (s : State) (items : List (Byte × Byte × BitVec 32)) : Conf :=
  items.foldl (fun c i => c.setField i.1.toNat i.2.1.toNat i.2.2.toInt) s.conf

/-- Every item names a field that exists. -/
theorem all_exist {items : List (Byte × Byte × BitVec 32)} (h : items.all (fun i => fieldExists i.1.toNat i.2.1.toNat) = true) :
    ∀ i ∈ items, fieldExists i.1.toNat i.2.1.toNat = true := List.all_eq_true.1 h

/-- Items that bind gauges 1 and 2 to stand 2. -/
def bindTwo : List (Byte × Byte × BitVec 32) := [(12, 1, 1), (12, 2, 1), (10, 1, 2), (10, 2, 2)]

/-- No such field; a structural field while a stand is positioned; two gauges bound to one stand; a clamped load threshold; N
lowered from 3 and raised to 7 in an idle train. -/
theorem witness_ConfigSet :
    let three : State := { State.reset with conf := { State.reset.conf with standCount := 3 } }
    State.reset.ready ∧ fieldExists 99 0 = false ∧ (∀ i ∈ bindTwo, fieldExists i.1.toNat i.2.1.toNat = true)
      ∧ ((copyOf (put 1 .positioning) [(1, 0, 3)]).structural ≠ (put 1 .positioning).conf.structural
        ∧ (put 1 .positioning).trainIdle = false)
      ∧ ((copyOf State.reset bindTwo).clamped.doubleBinding = true ∧ State.reset.trainIdle = true)
      ∧ ((copyOf State.reset [(16, 7, 1)]).structural = State.reset.conf.structural
        ∧ (copyOf State.reset [(16, 7, 1)]).clamped.doubleBinding = false
        ∧ (copyOf State.reset [(16, 7, 1)]).clamped.n = State.reset.conf.n
        ∧ ((put 1 .ready).stand 1).sc.gapRef ≠ none)
      ∧ ((copyOf three [(1, 0, 2)]).clamped.n = 2 ∧ three.conf.n = 3 ∧ three.trainIdle = true
        ∧ (copyOf three [(1, 0, 2)]).clamped.doubleBinding = false)
      ∧ (let c : TraceChan := { TraceChan.reset with quantity := some .gap, index := some 3 }
        c.quantity ≠ none ∧ c.quantity ≠ some .gauge ∧ c.quantity ≠ some .cycleLength ∧ c.index = some 3
          ∧ c.presence = .here ∧ (2 : Nat) < 3)
      ∧ (let s := three.mapLink (fun l => { l with sub := some ⟨4, [2, 3]⟩ })
        s.link.subNext.getD s.link.sub = some ⟨4, [2, 3]⟩
          ∧ (after (.configSet 1 [(1, 0, 2)]) s).link.subNext = some (some ⟨4, [2]⟩))
      ∧ ((copyOf State.reset [(1, 0, 9)]).clamped.n = 7 ∧ (copyOf State.reset [(1, 0, 9)]).clamped.doubleBinding = false) :=
  ⟨reset_ready, by decide +kernel, all_exist (by decide +kernel), by decide +kernel, by decide +kernel, by decide +kernel,
    by decide +kernel, by decide, by decide +kernel, by decide +kernel⟩

/-- The pairs of a code and an index at the ends of their ranges, and next to them; two fields of one stand and of two. -/
theorem witness_ConfigSet_fields :
    [(1, 0), (3, 0), (4, 1), (4, 6), (5, 0), (9, 0), (10, 1), (13, 3), (14, 0), (15, 23), (16, 1), (31, 7), (32, 0), (35, 14)].all
        (fun p => fieldExists p.1 p.2)
      ∧ [(0, 0), (1, 1), (4, 0), (4, 7), (9, 1), (10, 0), (13, 4), (15, 24), (16, 0), (31, 8), (35, 15), (36, 0)].all
        (fun p => !fieldExists p.1 p.2)
      ∧ (Conf.default.setField 17 2 5).field 17 2 = 5 ∧ (Conf.default.setField 17 2 5).field 16 2 = 1500
      ∧ (Conf.default.setField 17 2 5).field 17 1 = 800 := by
  decide +kernel

/-- Items: F_on below its range, F_off at F_on, S_min at S_max. -/
def lowItems : List (Byte × Byte × BitVec 32) := [(16, 1, 199), (17, 1, 200), (24, 1, 1), (23, 1, 1)]

/-- The low items; and the structural N above its range in an idle train. -/
theorem witness_StandFieldsClamped :
    State.reset.ready ∧ (∀ i ∈ lowItems, fieldExists i.1.toNat i.2.1.toNat = true)
      ∧ (copyOf State.reset lowItems).structural = State.reset.conf.structural
      ∧ (copyOf State.reset lowItems).clamped.doubleBinding = false
      ∧ (copyOf State.reset [(1, 0, 8)]).structural ≠ State.reset.conf.structural ∧ State.reset.trainIdle = true
      ∧ (copyOf State.reset [(1, 0, 8)]).clamped.doubleBinding = false :=
  ⟨reset_ready, all_exist (by decide +kernel), by decide +kernel, by decide +kernel, by decide +kernel, by decide +kernel,
    by decide +kernel⟩

theorem witness_SyncSelect :
    State.reset.ready ∧ (1 : Nat) < (2 : Byte).toNat ∧ State.reset.tb.state = .internal
      ∧ (onTb (fun t => { t with state := .qualifying })).ready
      ∧ (onTb (fun t => { t with state := .qualifying })).tb.state ≠ .internal
      ∧ (onTb (fun t => { t with state := .locked })).tb.state ≠ .internal :=
  ⟨reset_ready, by decide +kernel, rfl, ⟨rfl, rfl, rfl⟩, by decide +kernel, by decide +kernel⟩

/-- The erased store with a VALID slot that holds entries from 0 on, and in entry 255 its CRC plus a deviation. -/
def checked (n : Nat) (entries : List Entry) (deviation : Entry) : Store :=
  let st := (Store.erased.program n 0 entries).setSlot n ⟨.valid, 1, 1, false⟩
  st.setEntry n 255 (st.slotCrc n + deviation)

theorem checked_slotCrc (n : Nat) (es : List Entry) (d : Entry) :
    (checked n es d).slotCrc n + d = (checked n es d).entry n 255 := by
  unfold checked
  rw [Store.slotCrc_setEntry_check, Store.entry_setEntry_same]
  exact Memory.wf_writeAll (m := []) rfl _ _

theorem checked_differs (n : Nat) (es : List Entry) : (checked n es 1).slotCrc n ≠ (checked n es 1).entry n 255 := by
  intro h
  have := checked_slotCrc n es 1
  rw [← h] at this
  simp at this

theorem checked_canonical (n : Nat) (es : List Entry) (d : Entry) :
    Memory.wf erasedEntry (checked n es d).cells = true := Memory.wf_write (Memory.wf_writeAll (m := []) rfl _ _) _ _

/-- Stand 1 PARKED with a target, its channels OK and the store given. -/
def parked (st : Store) (known : Bool) : State :=
  let s := edit 1 (fun x =>
    { x with sc := { x.sc with target := .staged, gapRef := none }, gcu := { x.gcu with zeroKnown := known } }) (put 1 .parked)
  { s with store := st }

/-- Every test of STAND ARM failing, in order, and an arming that passes the curve load, with two points. -/
theorem witness_StandArm :
    State.reset.ready ∧ State.reset.conf.n < (3 : Byte).toNat
      ∧ ((State.reset.stand 1).sc.state ≠ .parked)
      ∧ ((edit 1 (fun st => { st with sc := { st.sc with state := .parked } })).stand 1).chans.gap.status = .lost
      ∧ (((put 1 .parked).stand 1).sc.target = .nothing ∧ ((put 1 .parked).stand 1).chans.force.status ≠ .lost)
      ∧ ((inFlight .erase 32 .erase [] (parked .erased true)).store.op.map StoreOp.slot = some 32
        ∧ (32 + ((parked .erased true).conf.stands.get 1).curveSlot).toNat = 32)
      ∧ ((parked .erased true).store.slotRec 32).state ≠ .valid
      ∧ (let s := parked (checked 32 [1, 0, 0] 0) true
        (s.store.slotRec 32).state = .valid ∧ (s.store.slotRec 32).damage = false ∧ (s.store.entry 32 0).toNat < 2
          ∧ (s.stand 1).sc.target ≠ .nothing ∧ (s.stand 1).sc.state = .parked)
      ∧ (let s := parked (checked 32 [2, 0, 0, 10000, 1800] 0) false
        2 ≤ (s.store.entry 32 0).toNat ∧ (s.store.entry 32 0).toNat ≤ 16
          ∧ risingForces (curvePoints (s.store.entry 32)) = true ∧ (s.stand 1).gcu.zeroKnown = false)
      ∧ ((checked 32 [2, 0, 0, 10000, 1800] 0).slotCrc 32 = (checked 32 [2, 0, 0, 10000, 1800] 0).entry 32 255
        ∧ (checked 32 [1, 0, 0] 0).slotCrc 32 = (checked 32 [1, 0, 0] 0).entry 32 255)
      ∧ ((checked 32 [2, 0, 0] 1).slotCrc 32 ≠ (checked 32 [2, 0, 0] 1).entry 32 255
        ∧ (parked (checked 32 [2, 0, 0] 1) true).memoriesCanonical) :=
  ⟨reset_ready, by decide, by decide +kernel, by decide +kernel, by decide +kernel, by decide +kernel, by decide +kernel,
    by decide +kernel, by decide +kernel, ⟨by simpa using checked_slotCrc 32 [2, 0, 0, 10000, 1800] 0,
    by simpa using checked_slotCrc 32 [1, 0, 0] 0⟩, checked_differs 32 [2, 0, 0], checked_canonical _ _ _, rfl, rfl⟩

/-- With a curve slot that is BLANK, the arming ends with CURVE_BAD and the stand stays PARKED. -/
theorem test_arm_curve_bad :
    let t := after (.standArm 1 1) (parked .erased true)
    reply t = some (.curveBad, []) ∧ (t.stand 1).sc.state = .parked := by decide +kernel

theorem witness_StandDisarm :
    State.reset.ready ∧ State.reset.conf.n < (3 : Byte).toNat ∧ ((put 1 .parked).stand 1).sc.state = .parked
      ∧ ((put 1 .positioning).stand 1).sc.state = .positioning ∧ ((put 2 .ready).stand 2).sc.state = .ready
      ∧ ((State.reset.stand 1).sc.state ≠ .parked ∧ (State.reset.stand 1).sc.state ≠ .ready)
      ∧ ((put 1 .parked).tb.deadlineDone = false ∧ ((put 1 .parked).stand 1).ctx.state = .parked) :=
  ⟨reset_ready, by decide +kernel, by decide +kernel, by decide +kernel, by decide +kernel, by decide +kernel, by decide +kernel⟩

/-- The reset state with its store replaced, and with a bar copy taken from slot 31. -/
def keep (st : Store) : State := { State.reset with store := st }
def named31 (st : Store) : State :=
  { keep st with images := { State.reset.images with copy1 := some ⟨(staged fields7 2).sched, 31⟩ } }

/-- Stand 1 READY on the staged schedule, with a gap. -/
def readyOn (x : StandSched) (gap : Int) : State :=
  { edit 1 (fun st => { st with
      sc := { st.sc with target := .staged }
      chans := { st.chans with gap := { st.chans.gap with value := gap } } }) (put 1 .ready) with
    images := { State.reset.images with staged := some (staged x 2) } }

/-- A schedule of the same target gap that is no identical copy keeps READY only within the tolerance (R41). -/
theorem test_retarget_same_gap :
    let other : Staged := staged { fields7 with kp := 1 } 2
    let state (gap : Int) (x : Staged) : StandState := (((readyOn fields7 gap).setStaged (some x) true).stand 1).sc.state
    [state 2900 other, state 9050 other, state 9050 (staged fields7 2)] = [.ready, .positioning, .ready] := by decide +kernel

/-- A READY stand whose target was a bar copy positions again outside the tolerance, also for an identical staged schedule (R41). -/
theorem test_retarget_from_bar :
    let s := (readyOn fields7 9050).mapSc 1 (fun r => { r with target := .bar 7 })
    ((s.setStaged (some (staged fields7 2)) true).stand 1).sc.state = .positioning := by decide +kernel

/-- Every test of SCHEDULE STAGE failing, in order, a failed check with and without an image of the slot, and a staging. -/
theorem witness_ScheduleStage :
    State.reset.ready ∧ State.reset.memoriesCanonical ∧ (31 : Nat) < (32 : Byte).toNat ∧ (31 : Byte).toNat ≤ 31
      ∧ (inFlight .erase 31 .erase []).store.op.map StoreOp.slot = some 31
      ∧ (State.reset.store.slotRec 31).state ≠ .valid
      ∧ ((keep (checked 31 [7, 2, 1000] 1)).memoriesCanonical
        ∧ (checked 31 [7, 2, 1000] 1).slotCrc 31 ≠ (checked 31 [7, 2, 1000] 1).entry 31 255
        ∧ ((checked 31 [7, 2, 1000] 1).slotRec 31).state = .valid ∧ ((checked 31 [7, 2, 1000] 1).slotRec 31).damage = false
        ∧ (keep (checked 31 [7, 2, 1000] 1)).images.names 31 = false)
      ∧ (named31 (checked 31 [7, 2, 1000] 1)).images.names 31 = true
      ∧ ((checked 31 [7, 3, 1000] 0).slotCrc 31 = (checked 31 [7, 3, 1000] 0).entry 31 255
        ∧ (Sched.ofSlot ((checked 31 [7, 3, 1000] 0).entry 31)).1.count ≠ State.reset.conf.standCount)
      ∧ ((checked 31 [7, 2, 1000] 0).slotCrc 31 = (checked 31 [7, 2, 1000] 0).entry 31 255
        ∧ (Sched.ofSlot ((checked 31 [7, 2, 1000] 0).entry 31)).1.count = State.reset.conf.standCount)
      ∧ (let s := readyOn fields7 9050
        (s.stand 1).sc.state = .ready ∧ State.targetOf s 1 = .staged) := by
  refine ⟨reset_ready, reset_canonical, by decide, by decide, rfl, by decide +kernel,
    ⟨⟨checked_canonical _ _ _, rfl, rfl⟩, checked_differs 31 _, by decide +kernel, by decide +kernel, by decide +kernel⟩, by decide +kernel,
    ⟨by simpa using checked_slotCrc 31 [7, 3, 1000] 0, by decide +kernel⟩,
    ⟨by simpa using checked_slotCrc 31 [7, 2, 1000] 0, by decide +kernel⟩, by decide +kernel⟩

theorem witness_ScheduleUnstage :
    (positioned (some 9300) none 0 9301).ready ∧ ((positioned (some 9300) none 0 9301).stand 1).sc.state = .positioning
      ∧ ((positioned (some 9300) none 0 9301).stand 1).sc.target = .staged
      ∧ ((after (.scheduleUnstage 1) (positioned (some 9300) none 0 9301)).stand 1).sc.target = .nothing
      ∧ ((put 1 .rolling).stand 1).sc.state ≠ .positioning :=
  ⟨⟨rfl, rfl, rfl⟩, by decide +kernel, by decide +kernel, by decide +kernel, by decide +kernel⟩

/-- Slot 0 with pending damage, named by the staged buffer alone, by bar copy 0 too, and by bar copy 0 alone. -/
def damaged0 (buffer copy : Bool) : State :=
  { State.reset with
    store := State.reset.store.setSlot 0 ⟨.valid, 1, 1, true⟩
    images :=
      { staged := if buffer then some (staged fields7 2) else none
        copy0 := if copy then some ⟨(staged fields7 2).sched, 0⟩ else none, copy1 := none } }

/-- The last image that names slot 0 emptied or freed, one of two, and a slot with no pending damage. -/
theorem witness_ScheduleUnstage_damage :
    let bar : Bar := { id := 7, copy := 0, slot := 0, furthest := 2, missed := none, tailBorn := true, trackFull := false
                       deferred := false }
    let rec0 (s : State) : SlotState × Bool := ((s.store.slotRec 0).state, (s.store.slotRec 0).damage)
    let unstaged (s : State) : State := after (.scheduleUnstage 1) s
    ((damaged0 true false).memoriesCanonical ∧ (damaged0 true false).ready ∧ (damaged0 true false).images.staged.map Staged.slot = some 0)
      ∧ rec0 (unstaged (damaged0 true false)) = (.damaged, false) ∧ (unstaged (damaged0 true false)).images.names 0 = false
      ∧ rec0 (unstaged (damaged0 true true)) = (.valid, true) ∧ (unstaged (damaged0 true true)).images.names 0 = true
      ∧ rec0 ((damaged0 false true).removeBar bar) = (.damaged, false) ∧ rec0 ((damaged0 true true).removeBar bar) = (.valid, true)
      ∧ ((positioned none none 0 0).store.slotRec 0).damage = false :=
  ⟨⟨⟨rfl, by decide, rfl⟩, ⟨rfl, rfl, rfl⟩, rfl⟩, by decide +kernel, by decide +kernel, by decide +kernel, by decide +kernel,
    by decide +kernel, by decide +kernel, by decide +kernel⟩

/-- The tune values at the end of a range and beyond it; a stand and a field beyond theirs. -/
theorem witness_TuneAndMonitor :
    State.reset.ready ∧ State.reset.conf.n < (3 : Byte).toNat ∧ (12 : Nat) < (13 : Byte).toNat
      ∧ tuneClamp 12 (256 : BitVec 32).toInt = (256 : BitVec 32).toInt ∧ tuneClamp 12 (257 : BitVec 32).toInt ≠ (257 : BitVec 32).toInt
      ∧ ((1 : Nat) ≤ (2 : Byte).toNat ∧ (2 : Byte).toNat ≤ State.reset.conf.n) ∧ (0 : Byte).toNat = 0 :=
  ⟨reset_ready, by decide +kernel, by decide +kernel, by decide +kernel, by decide +kernel, by decide +kernel, rfl⟩

theorem witness_SourcesApplied :
    State.reset.ready ∧ State.reset.conf.n < (3 : Byte).toNat ∧ (2 : Byte).toNat ≤ State.reset.conf.n
      ∧ (0 : Byte).toNat ≤ State.reset.conf.n
      ∧ (let lock (count : Nat) : State := onTb (fun t => { t with state := .locked, holdover := count, lastStrobe := 1000 })
        (lock 2).tb.state = .locked ∧ 3 * (lock 2).tb.period.toNat ≤ 4 * (1750 - 1000)
          ∧ 4 * (2250 - 1000) ≤ 5 * (lock 2).tb.period.toNat)
      ∧ (State.reset.tb.state ≠ .locked ∧ State.reset.tb.deadlineDone = false ∧ 2 ≤ State.reset.lowN)
      ∧ (onTb (fun t => { t with deadlineDone := true, updateDone := true })).track.held = [] :=
  ⟨reset_ready, by decide +kernel, by decide +kernel, by decide +kernel, by decide +kernel, by decide +kernel, by decide +kernel⟩

/-- Stand 1 ROLLING with runs, a gap and limits of its errors; the gap reference before is 2,850 µm and the raw error −70. -/
def erring (gap followLimit runawayLimit nFollow : Int) : State :=
  let s := edit 1 (fun st =>
    { st with
      sc := { st.sc with followRun := ⟨4, false⟩, runawayRun := ⟨4, false⟩ }
      chans := { st.chans with gap := { st.chans.gap with value := gap } } }) (rollSeven fields7)
  { s with force := { s.force with stands := s.force.stands.set 1 { s.force.stands.get 1 with
      followLimit := followLimit, runawayLimit := runawayLimit, nFollow := nFollow } } }

/-- Both runs rising and returned to 0 at the ends of their limits, one that latches, one with no previous reference or a LOST gap, and
the runs of a stand outside ROLLING and in TRIPPED. -/
theorem witness_SourcesApplied_runs :
    let runs (s : State) : ErrorRun × ErrorRun :=
      let r := ((after .sampleDeadline s).stand 1).sc
      (r.followRun, r.runawayRun)
    let base := erring 2870 19 69 10
    let gone := edit 1 (fun st => { st with sc := { st.sc with prevGap := none } }) base
    let tailing := edit 1 (fun st => { st with ctx := { st.ctx with state := .tailout } }) base
    let dead := edit 1 (fun st => { st with sc := { st.sc with state := .tripped }, trip := ⟨true, .hold, [], 0⟩ }) base
    let lost := edit 1 (fun st => { st with chans := { st.chans with gap := { st.chans.gap with status := .held, age := 3 } } }) base
    (base.tb.deadlineDone = false ∧ 1 ≤ base.force.n ∧ 1 ≤ base.conf.n ∧ 1 ≤ base.lowN
        ∧ ((after .sampleDeadline base).stand 1).trip.latch = (base.stand 1).trip.latch)
      ∧ runs base = (⟨5, false⟩, ⟨5, false⟩) ∧ runs (erring 2870 20 69 10) = (.zero, ⟨5, false⟩)
      ∧ (((after .sampleDeadline (erring 2870 20 70 10)).stand 1).gcu.q.eRaw = some (-70) ∧ (runs (erring 2870 20 70 10)).2 = .zero)
      ∧ (((after .sampleDeadline (erring 2870 19 69 5)).stand 1).trip.latch = true ∧ runs (erring 2870 19 69 5) = (.zero, .zero))
      ∧ ((gone.stand 1).sc.prevGap = none ∧ (runs gone).1 = .zero)
      ∧ (((after .sampleDeadline lost).stand 1).chans.gap.status = .lost ∧ (lost.stand 1).sc.prevGap ≠ none)
      ∧ runs tailing = (⟨5, false⟩, ⟨4, false⟩) ∧ runs dead = (⟨4, false⟩, ⟨4, false⟩) := by decide +kernel

/-- A stand added in the cycle meets the sources of the strobe unloaded and with no snapshot. -/
theorem witness_SourcesApplied_added :
    let three : State := { State.reset with conf := { State.reset.conf with standCount := 3 } }
    (three.lowN < 3 ∧ 3 ≤ three.conf.n ∧ 2 ≤ three.lowN ∧ 2 ≤ three.force.n)
      ∧ (onTb (fun t => { t with deadlineDone := true, updateDone := true })).snapOf ⟨.host, some 1, none⟩ = none := by decide +kernel

/-- A follow error is presented once in a run, also where N_follow is lowered or raised in it (R55). -/
theorem test_error_run :
    errorRun true ⟨2, false⟩ 3 = (⟨3, true⟩, true) ∧ errorRun true ⟨3, true⟩ 2 = (⟨2, true⟩, false)
      ∧ errorRun true ⟨3, true⟩ 4 = (⟨4, true⟩, false) ∧ errorRun false ⟨3, true⟩ 3 = (.zero, false) := by decide

theorem reset_latchesMatch : State.reset.latchesMatch := by
  intro k h1 h2
  interval_cases k <;> decide

/-- Under a HOST row of own OPEN, same bar WARN and others NONE: stands 1 and 2 in turn, clear and latched. -/
theorem witness_TripApplied :
    let row : Row := ⟨3, 1, 0, 1⟩
    let s : State := { put 1 .rolling (put 2 .rolling) with
      force := { State.reset.force with matrix := { State.reset.force.matrix with host := row } } }
    let serving := edit 1 (fun st => { st with sc := { st.sc with served := some 7 } }) s
    (s.actionFor ⟨.host, some 1, none⟩ 1 = .opening ∧ (s.stand 1).trip.latch = false)
      ∧ s.actionFor ⟨.host, some 1, none⟩ 2 = .nothing
      ∧ (serving.actionFor ⟨.host, none, none⟩ 1 = .warn ∧ (serving.stand 1).trip.latch = false)
      ∧ ((State.reset.stand 1).trip.latch = true ∧ State.reset.actionFor ⟨.estop0, some 0, none⟩ 1 = .release)
      ∧ (1 ≤ s.conf.n ∧ 2 ≤ s.conf.n)
      ∧ (State.reset.actionFor ⟨.reset, none, none⟩ 1 = .release ∧ s.actionFor ⟨.barAbandoned, some 1, some 7⟩ 1 ≠ .nothing)
      ∧ ((calibrating .closing 0 160 0 .noKiss).stand 1).cal.phase ≠ .nothing ∧ State.reset.latchesMatch :=
  ⟨by decide +kernel, by decide +kernel, by decide +kernel, by decide +kernel, by decide +kernel, by decide +kernel,
    by decide +kernel, reset_latchesMatch⟩

/-- Stands 1 and 2 loaded and rolling bar 7, the latches of the others as they match, and a HOST row that opens its stand. -/
def twoRolling (missed : Option Nat) : State :=
  let roll (st : Stand) : Stand := { st with sc := { st.sc with served := some 7, loaded := true } }
  let s := edit 1 roll (edit 2 roll (put 1 .rolling (put 2 .rolling)))
  { s with
    force := { s.force with matrix := { s.force.matrix with host := ⟨3, 1, 0, 1⟩ } }
    track := { s.track with
      bars := [{ id := 7, copy := 0, slot := 0, furthest := 2, missed := missed, tailBorn := false, trackFull := false
                 deferred := false }]
      segs := [{ seq := 5, bar := 7, kind := .head, zone := 2, dist := 0, birth := 0, ests := [], reads := [] }] } }

/-- A HOST source that opens stand 1 makes a record and abandons bar 7, which stand 2 rolls; a condition source that stays active and
latches nothing new makes none. -/
theorem witness_TripRecords :
    ((twoRolling (some 1)).track.bars.map Bar.missed = [some 1])
      ∧ (let r := (twoRolling none).applySource ⟨.host, some 1, none⟩ false
        r.1.trips.records.length = 2 ∧ r.1.track.bars = [] ∧ r.2 = [⟨.barAbandoned, some 2, some 7⟩])
      ∧ (State.reset.applySource ⟨.estop0, some 0, none⟩ false).1.trips = State.reset.trips
      ∧ (∀ k ∈ [1, 2, 3, 4, 5, 6, 7], ((twoRolling none).stand k).trip.latch = true
        ↔ ((twoRolling none).stand k).sc.state = .tripped) := by decide +kernel

/-- A stand beyond N; no stand latched; stand 1 not latched. -/
theorem witness_TripClear :
    (State.reset.ready ∧ standsOf 4 = [3] ∧ State.reset.conf.n < 3)
      ∧ (standsOf 1 = [1] ∧ ((put 1 .parked (put 2 .parked)).stand 1).trip.latch = false)
      ∧ ∀ k, 1 ≤ k → k ≤ 7 → ((put 1 .parked (put 2 .parked)).stand k).trip.latch = false := by
  refine ⟨⟨reset_ready, by decide +kernel, by decide +kernel⟩, by decide +kernel, fun k h1 h2 => ?_⟩
  interval_cases k <;> decide +kernel

/-- Stand 1 latched by HOST with HOLD, alone or beside stand 2, and the clear of stand 1. -/
def hostLatched : State :=
  edit 1 (fun st => { st with lostSrc := false, trip := ⟨true, .hold, [⟨.host, some 1⟩], 1⟩ })

theorem witness_TripClear_one :
    hostLatched.ready ∧ standsOf 1 = [1] ∧ 1 ≤ hostLatched.conf.n ∧ (hostLatched.stand 1).trip.latch = true
      ∧ (∀ id ∈ (hostLatched.stand 1).trip.sources, hostLatched.sourceActive id = false)
      ∧ (standsOf 2 = [2] ∧ (hostLatched.stand 2).trip.latch = true
        ∧ (⟨.estop0, some 0⟩ : SourceId) ∈ (hostLatched.stand 2).trip.sources ∧ (hostLatched.estops.get 0).active = true)
      ∧ reply (after (.tripClear 1 1) hostLatched) = some (.ok, [1, 1, 0, 0, 0, 0, 0])
      ∧ (hostLatched.conf.n ≤ 7 ∧ standsOf 3 = [1, 2] ∧ standsOf 3 = [1] ++ 2 :: [])
      ∧ reply (after (.tripClear 1 3) hostLatched) = some (.sourceActive, [2, 1, 0, 2, 11, 0, 0, 0, 0]) :=
  ⟨⟨rfl, rfl, rfl⟩, by decide +kernel, by decide +kernel, by decide +kernel, by decide +kernel, by decide +kernel, by decide +kernel, by decide +kernel, by decide +kernel⟩

theorem witness_PermissiveLines :
    hostLatched.ready ∧ standsOf 1 = [1] ∧ 1 ≤ hostLatched.conf.n ∧ (hostLatched.stand 1).trip.latch = true
      ∧ ∀ id ∈ (hostLatched.stand 1).trip.sources, hostLatched.sourceActive id = false :=
  ⟨⟨rfl, rfl, rfl⟩, by decide +kernel, by decide +kernel, by decide +kernel, by decide +kernel⟩

theorem witness_ZeroCalRequests :
    let s := put 1 .parked
    let curved := edit 1 (fun st => { st with gcu := { st.gcu with curve := some ⟨curve, 0⟩ } }) s
    (State.reset.ready ∧ State.reset.conf.n < (3 : Byte).toNat ∧ (State.reset.stand 1).sc.state ≠ .parked)
      ∧ ((s.stand 1).sc.state = .parked ∧ (s.stand 1).sc.loaded = false ∧ (s.stand 1).chans.gap.status = .ok
        ∧ (s.stand 1).chans.force.status = .ok ∧ (s.stand 1).gcu.curve = none)
      ∧ ((curved.stand 1).gcu.curve ≠ none ∧ (curved.stand 1).sc.state = .parked)
      ∧ (∀ x ∈ [calibrating .closing 0 160 0 .ok, calibrating .holding 2000 140 1 .ok, calibrating .opening 0 140 64 .ok,
          calibrating .opening 0 140 64 .unsteady], (x.stand 1).sc.state = .calibrating)
      ∧ ((calibrating .opening 0 140 64 .unsteady).stand 1).cal.result ≠ .ok :=
  ⟨⟨reset_ready, by decide +kernel, by decide +kernel⟩, by decide +kernel, by decide +kernel, by decide +kernel, by decide +kernel⟩

/-- The worked capture at stand 1: S_ref, region 0 to 15, RING, decimation 1, post-trigger count 6, TRIP AT STAND. -/
def setup (base length : BitVec 16) : TraceParams :=
  { channel := 0, quantity := 8, index := 1, base := base, length := length, mode := 1, block := 4, post := 6, decimation := 1
    trigger := 4, triggerStand := 1 }

/-- A trace channel of region 0 to 15 in a state, with samples held. -/
def channel (x : TraceState) (fill : Nat) : State :=
  let c : TraceChan :=
    { TraceChan.reset with
      quantity := some .sRef, index := some 1, length := 16, mode := .ring, block := 4, post := 6, trigger := .tripAt 1
      state := x, wpos := some 0, fill := fill }
  { State.reset with trace := { State.reset.trace with chans := State.reset.trace.chans.set 0 c } }

theorem witness_TraceSetup :
    (State.reset.ready ∧ (7 : Nat) < (8 : Byte).toNat ∧ ((channel .armed 0).trace.chans.get 0).state = .armed
        ∧ (State.reset.trace.chans.get 0).state = .idle ∧ ((channel .done 3).trace.chans.get 0).state = .done)
      ∧ TraceQuantity.ofCode 13 = none
      ∧ (TraceQuantity.ofCode 8 = some .sRef ∧ Trigger.ofCode 4 1 = some (.tripAt 1) ∧ TraceMode.ofCode 1 = some .ring)
      ∧ ((1 : Nat) ≤ (setup 0 16).index.toNat ∧ (setup 0 16).index.toNat ≤ State.reset.conf.n ∧ State.reset.conf.n < 3)
      ∧ (¬((15 : Nat) = 0 ∨ (16 ≤ 15 ∧ 15 ≤ 16384 ∧ 0 + 15 ≤ 16384)) ∧ (16368 : Nat) + 16 ≤ 16384)
      ∧ ((0 : Nat) < 16 ∧ 0 < ((channel .idle 0).trace.chans.get 0).length
        ∧ (15 : Nat) < ((channel .idle 0).trace.chans.get 0).base + ((channel .idle 0).trace.chans.get 0).length) :=
  ⟨⟨reset_ready, by decide +kernel, by decide +kernel, by decide +kernel, by decide +kernel⟩, by decide +kernel, by decide +kernel, by decide +kernel, by decide +kernel,
    by decide +kernel⟩

/-- The worked setup is accepted as it stands, and one that overlaps it is refused. -/
theorem test_trace_setup_overlap :
    (reply (after (.traceSetup 1 (setup 0 16)) State.reset)).map Prod.fst = some .ok
      ∧ reply (after (.traceSetup 1 { setup 15 16 with channel := 1 }) (channel .idle 0)) = some (.overlap, []) := by
  decide +kernel

theorem witness_TraceRequests :
    (State.reset.ready ∧ (7 : Nat) < (8 : Byte).toNat ∧ (8 : Byte).toNat ≠ 255 ∧ (255 : Byte).toNat = 255 ∧ (7 : Byte).toNat ≤ 7)
      ∧ (∀ x ∈ [TraceState.idle, .armed, .capturing, .done], ((channel x 16).trace.chans.get 0).state = x)
      ∧ ((State.reset.trace.chans.get 0).length = 0 ∧ ((channel .idle 16).trace.chans.get 0).length ≠ 0)
      ∧ ((channel .done 16).trace.chans.get 0).fill < (17 : BitVec 16).toNat
      ∧ (16 : BitVec 16).toNat ≤ ((channel .done 16).trace.chans.get 0).fill :=
  ⟨⟨reset_ready, by decide +kernel, by decide +kernel, by decide +kernel, by decide +kernel⟩, by decide +kernel, by decide +kernel, by decide +kernel,
    by decide +kernel⟩

/-- The channel of region 0 to 15 with a mode, a write position, block and trigger counts, after the settlement of cycle 0. -/
def settled (mode : TraceMode) (x : TraceState) (wpos fill post : Nat) (triggers : List Labelled) : TraceChan :=
  let c : TraceChan := { (channel x fill).trace.chans.get 0 with mode := mode, wpos := some wpos, postTaken := post, blocks := 4 }
  let s : State := { State.reset with trace := { State.reset.trace with
    chans := State.reset.trace.chans.set 0 c, triggers := triggers } }
  s.settleTrace.trace.chans.get 0

/-- A channel in each mode at the end of its region; one armed that takes its trigger, and one that does not. -/
theorem witness_TraceSettlement :
    (State.reset.tb.state ≠ .locked ∧ (0 : Nat) < 8 ∧ State.reset.memoriesCanonical)
      ∧ ((settled .single .capturing 15 15 0 []).state = .done ∧ (settled .single .capturing 15 15 0 []).wpos = some 0)
      ∧ ((settled .ring .capturing 15 16 5 []).state = .done ∧ (settled .ring .armed 3 16 0 []).wpos = some 4)
      ∧ ((settled .block .capturing 15 15 0 []).state = .done ∧ (settled .single .idle 3 0 0 []).wpos = some 3)
      ∧ ((settled .single .armed 0 0 0 [⟨.tripAt 1, none, 0⟩]).state = .capturing
        ∧ (settled .single .armed 0 0 0 [⟨.tripAt 1, none, 1⟩]).state = .armed)
      ∧ ((channel .done 15).trace.chans.get 0).fill < ((channel .done 15).trace.chans.get 0).length
      ∧ (((channel .done 16).trace.chans.get 0).fill = 16 ∧ ((channel .done 16).trace.chans.get 0).mode = .ring
        ∧ ((channel .done 16).trace.chans.get 0).wpos = some 0) :=
  ⟨⟨by decide, by decide, reset_canonical⟩, by decide +kernel, by decide +kernel, by decide +kernel, by decide +kernel,
    by decide +kernel, by decide +kernel⟩

/-- A channel that traces stand 3, which leaves in a cycle and is added again: that cycle is sampled, and no later one (R170). -/
theorem test_trace_after_lowering :
    let conf : Conf := { State.reset.conf with standCount := 3 }
    let c : TraceChan := { TraceChan.reset with quantity := some .gap, index := some 3, length := 16 }
    let s : State := ({ State.reset with
      conf := conf, force := conf, lowN := 3, trace := { State.reset.trace with chans := State.reset.trace.chans.set 0 c } } : State)
    let set (n : BitVec 32) (s : State) : State := (after (.configSet 1 [(1, 0, n)]) s).mapLink (fun l => { l with slot := none })
    let seen (s : State) : Presence × Int := ((s.trace.chans.get 0).presence, s.traceSample (s.trace.chans.get 0))
    let t := set 3 (set 2 (s.mapStand 3 (fun st => { st with chans := { st.chans with gap := { st.chans.gap with value := 9 } } })))
    (seen t, seen (after (.internalReferenceStrobe 0) t)) = ((.leaving, 9), (.gone, absentMarker)) := by decide +kernel

/-- A trace read of count 0 at the end of the samples is answered CLAMPED (R180). -/
theorem test_trace_read_count_0 :
    (reply (after (.traceRead 1 0 16 0) (channel .done 16))).map Prod.fst = some .clamped := by decide +kernel

/-- A trigger that the work outstanding at a strobe brings is one of the next cycle (R171). -/
theorem test_trigger_at_strobe :
    (heldChange 2 true (heading 1000000)).finishCycle.trace.triggers.getLast? = some ⟨.headAt 2, none, 1⟩ := by decide +kernel

theorem witness_SubscribeAndRestart :
    (State.reset.ready ∧ standsOf 4 = [3] ∧ State.reset.conf.n < 3) ∧ standsOf 0 = [] ∧ (standsOf 3 = [1, 2] ∧ 2 ≤ State.reset.conf.n)
      ∧ State.reset.trainIdle = true ∧ State.reset.store.op = none
      ∧ ((put 1 .positioning).ready ∧ (put 1 .positioning).trainIdle = false)
      ∧ (let r : Reply := ⟨0x20, 1, .ok, 0, [], 0⟩
        (onLink (fun l => { l with restart := .accepted, tx := some (.reply r 1) })).link.restart = .accepted ∧ r.parts ≤ 1) :=
  ⟨⟨reset_ready, by decide +kernel, by decide +kernel⟩, by decide +kernel, by decide +kernel, by decide +kernel, rfl, ⟨⟨rfl, rfl, rfl⟩, by decide +kernel⟩, rfl,
    by decide +kernel⟩

/-! ### Witnesses: what every step keeps -/

theorem reset_placed : TraceChan.reset.placed := by
  refine ⟨by decide, fun p h => ?_, by decide⟩
  cases h

/-- A machine with a region set up, its trace memory written, and one without any. -/
theorem witness_StepKeepsMemories :
    State.reset.memoriesCanonical ∧ State.reset.regionsApart ∧ step State.reset = .next State.reset
      ∧ (channel .armed 3).regionsApart := by
  refine ⟨reset_canonical, ⟨fun i h => ?_, fun i j hi hj _ => ?_, by simp [State.reset, Trace.reset]⟩, rfl,
    fun i h => ?_, fun i j hi hj hij => ?_, by simp [channel, State.reset, Trace.reset]⟩
  · interval_cases i <;> exact reset_placed
  · interval_cases i <;> exact .inl rfl
  · rcases Nat.eq_zero_or_pos i with rfl | h0
    · refine ⟨by decide, fun p h => ?_, by decide⟩
      have : some 0 = some p := h
      cases this; decide
    · interval_cases i <;> exact reset_placed
  · by_cases h0 : i = 0
    · subst h0; interval_cases j <;> first | exact absurd rfl hij | exact .inr (.inl rfl)
    · interval_cases i <;> first | exact absurd rfl h0 | exact .inl rfl

theorem witness_StepKeepsCapacity : State.reset.withinCapacity ∧ step State.reset = .next State.reset :=
  ⟨⟨by decide, by decide, by decide, by decide, by decide, by decide⟩, rfl⟩

theorem witness_StepKeepsLatches : State.reset.latchesMatch ∧ step State.reset = .next State.reset := ⟨reset_latchesMatch, rfl⟩

theorem witness_StepKeepsLimits : State.reset.limitsHeld ∧ step State.reset = .next State.reset := by
  have conf : State.reset.conf.inOrder := by
    refine ⟨by decide +kernel, by decide +kernel, fun k h1 h2 => ?_⟩
    interval_cases k <;> exact ⟨by decide +kernel, by decide +kernel⟩
  refine ⟨⟨conf, conf, fun k h1 h2 => ?_⟩, rfl⟩
  interval_cases k <;> exact ⟨by decide +kernel, fun g h => by simp [State.reset, State.stand, PerStand.get, State.resetStand,
    Stand.reset, StandRec.reset, Stand.unused] at h, by decide +kernel⟩

end Sys2Proof.Tests
end

section
/-!
PROOF. The stand fields of a configuration take their ranges (R33): what CONFIG SET makes of the configuration, what it answers, and the
range of each stand field in it.
-/

namespace Sys2Proof.Machine

/-! ### CONFIG SET and the configuration (R190) -/

theorem State.conf_retarget (s old : State) (restaged : Bool) : (s.retarget old restaged).conf = s.conf := by
  obtain ⟨-, conf, -⟩ := State.still_fields (s.still_retarget old restaged)
  exact conf

theorem State.conf_settleDamage (s : State) (slot : Nat) : (s.settleDamage slot).conf = s.conf := by
  obtain ⟨-, conf, -⟩ := State.still_fields (s.still_settleDamage slot)
  exact conf

theorem State.conf_changeN (s : State) (old : Nat) : (s.changeN old).conf = s.conf := by
  unfold State.changeN
  dsimp only
  split
  case isTrue => rfl
  case isFalse =>
    rw [State.conf_retarget]
    split
    · rw [State.conf_settleDamage]
      split <;> rfl
    · split <;> rfl

theorem State.conf_waitLimits (s : State) : s.waitLimits.conf = s.conf := rfl

/-- A CONFIG SET that no test refuses makes the clamped copy the configuration, and is answered CLAMPED if the clamping changed it. -/
theorem State.takeConfigSet_accepted {s : State} {items : List (Byte × Byte × BitVec 32)}
    (exist : ∀ i ∈ items, fieldExists i.1.toNat i.2.1.toNat = true)
    (allowed : (s.conf.withItems items).structural = s.conf.structural ∨ s.trainIdle = true)
    (single : (s.conf.withItems items).clamped.doubleBinding = false) :
    ∃ t : State, t.conf = (s.conf.withItems items).clamped
      ∧ s.takeConfigSet items
        = (t, .clampedIf (decide ((s.conf.withItems items).clamped ≠ s.conf.withItems items)), []) := by
  have exists_all : ¬¬(items.all (fun i => fieldExists i.1.toNat i.2.1.toNat)) = true := not_not.2 (List.all_eq_true.2 exist)
  have permitted : ¬((s.conf.withItems items).structural ≠ s.conf.structural ∧ ¬s.trainIdle = true) := by tauto
  refine ⟨(({ s with conf := (s.conf.withItems items).clamped }).changeN s.conf.n).waitLimits, ?_, ?_⟩
  · rw [State.conf_waitLimits, State.conf_changeN]
  · unfold State.takeConfigSet
    dsimp only
    rw [if_neg exists_all, if_neg permitted, if_neg (Bool.eq_false_iff.1 single)]

/-! ### The clamped stand (R33) -/

/-- The ordering clamps of R78 and R84 concern gauges and the strip alone, so each stand is clamped by itself. -/
theorem Conf.stand_clamped (c : Conf) (k : Nat) : c.clamped.stands.get k = (c.stands.get k).clamped :=
  PerStand.get_map StandConf.clamped c.stands k

/-- The fields of codes 16 to 25 of a clamped stand lie in the ranges of R33, with F_off below F_on and S_min below S_max. -/
theorem StandConf.clamped_ranges (c : StandConf) :
    let d := c.clamped
    let fOff := max 100 (min 39999 c.fOff)
    let sMin := max 0 (min 59999 c.sMin)
    d.fOn = max 200 (min 40000 c.fOn)
      ∧ d.fOff = (if d.fOn ≤ fOff then d.fOn - 1 else fOff)
      ∧ d.tolerance = max 10 (min 2000 c.tolerance)
      ∧ d.followLimit = max 50 (min 20000 c.followLimit) ∧ d.nFollow = max 1 (min 255 c.nFollow)
      ∧ d.runawayLimit = max 50 (min 30000 c.runawayLimit) ∧ d.nRun = max 1 (min 255 c.nRun)
      ∧ d.sMax = max 1 (min 60000 c.sMax)
      ∧ d.sMin = (if d.sMax ≤ sMin then d.sMax - 1 else sMin)
      ∧ d.curveSlot = max 0 (min 7 c.curveSlot) :=
  ⟨rfl, rfl, rfl, rfl, rfl, rfl, rfl, rfl, rfl, rfl⟩

/-- A stand that the clamping changes makes the reply CLAMPED. -/
theorem Conf.clampedIf_of_stand_ne {c : Conf} {k : Nat} (h : c.clamped.stands.get k ≠ c.stands.get k) :
    Code.clampedIf (decide (c.clamped ≠ c)) = .clamped := by
  have changed : c.clamped ≠ c := fun e => h (by rw [e])
  rw [decide_eq_true changed, Code.clampedIf_true]

/-- Settles O39: an accepted CONFIG SET makes the clamped copy the configuration, and clamping takes each stand by itself. -/
theorem standFieldsClamped : Obligations.StandFieldsClamped := by
  intro tag items s ready exist copy allowed single
  obtain ⟨t, conf, taken⟩ := State.takeConfigSet_accepted exist allowed single
  refine ⟨t, .clampedIf (decide (copy.clamped ≠ copy)), ?_, fun k _ _ => ?_⟩
  · rw [exec_answered rfl ready]
    exact congrArg (fun a : Answer => Host.Outcome.next (a.1.replied 0x03 tag a.2.1 a.2.2)) taken
  · have stand : t.conf.stands.get k = (copy.stands.get k).clamped := by rw [conf]; exact copy.stand_clamped k
    obtain ⟨fOn, fOff, tolerance, follow, nFollow, runaway, nRun, sMax, sMin, curveSlot⟩ :=
      (copy.stands.get k).clamped_ranges
    rw [stand]
    refine ⟨fOn, fOff, tolerance, follow, nFollow, runaway, nRun, sMax, sMin, curveSlot, fun changed => ?_⟩
    exact Conf.clampedIf_of_stand_ne (k := k) (by rw [Conf.stand_clamped]; exact changed)

end Sys2Proof.Machine
end

section
/-!
PROOF. The stretch of a working curve (R89): points that the force has passed do not matter, and what remains is the line of one interval.
-/

namespace Sys2Proof.Machine

/-! ### Where the force lies on the curve (R89) -/

theorem stretch_bounds (ps : List (Int × Int)) (f : Int) : 0 ≤ stretch ps f ∧ stretch ps f ≤ 20000 := by
  unfold stretch clampTo; omega

/-- At or below the first force, the first stretch. -/
theorem stretch_of_le_first {p : Int × Int} {f : Int} (ps : List (Int × Int)) (h : f ≤ p.1) :
    stretch (p :: ps) f = clampTo 0 20000 p.2 := by
  simp only [stretch, if_pos h]

theorem stretch_of_first_lt {p : Int × Int} {f : Int} (ps : List (Int × Int)) (h : p.1 < f) :
    stretch (p :: ps) f = clampTo 0 20000 (stretchFrom p ps f) := by
  simp only [stretch, if_neg (not_le.2 h)]

/-- On the first interval, and beyond it where no other follows, the line through the first two points. -/
theorem stretch_first_interval {a b : Int × Int} {post : List (Int × Int)} {f : Int} (ha : a.1 < f)
    (hb : f ≤ b.1 ∨ post = []) : stretch (a :: b :: post) f = clampTo 0 20000 (alongInterval a b f) := by
  rw [stretch_of_first_lt _ ha]
  cases post with
  | nil => rfl
  | cons c rest => rw [stretchFrom, if_pos (hb.resolve_right (List.cons_ne_nil c rest))]

/-- A first point whose interval the force has passed, with another interval after it, does not matter. -/
theorem stretch_skip_first {p q r : Int × Int} {rest : List (Int × Int)} {f : Int} (hp : p.1 < f) (hq : q.1 < f) :
    stretch (p :: q :: r :: rest) f = stretch (q :: r :: rest) f := by
  rw [stretch_of_first_lt _ hp, stretch_of_first_lt _ hq, stretchFrom, if_neg (not_le.2 hq)]

/-- All the points before the interval that the force has reached do not matter. -/
theorem stretch_skip {pre post : List (Int × Int)} {a b : Int × Int} {f : Int} (hpre : ∀ p ∈ pre, p.1 < f) (ha : a.1 < f) :
    stretch (pre ++ a :: b :: post) f = stretch (a :: b :: post) f := by
  induction pre with
  | nil => rfl
  | cons p pre ih =>
    obtain ⟨hp, below⟩ := List.forall_mem_cons.1 hpre
    rw [← ih below]
    cases pre with
    | nil => exact stretch_skip_first hp ha
    | cons q pre =>
      cases pre with
      | nil => exact stretch_skip_first hp (List.forall_mem_cons.1 below).1
      | cons r pre => exact stretch_skip_first hp (List.forall_mem_cons.1 below).1

/-- Past the force of `a`, on a curve whose forces rise, the line through `a` and the next point `b` up to the force of `b`, and beyond
it where `b` is the last. -/
theorem stretch_on_interval {pre post : List (Int × Int)} {a b : Int × Int} {f : Int}
    (rising : (pre ++ a :: b :: post).Pairwise (fun x y => x.1 < y.1)) (ha : a.1 < f) (hb : f ≤ b.1 ∨ post = []) :
    stretch (pre ++ a :: b :: post) f = clampTo 0 20000 (alongInterval a b f) := by
  obtain ⟨-, -, before⟩ := List.pairwise_append.1 rising
  have below : ∀ p ∈ pre, p.1 < f := fun p hp => (before p hp a List.mem_cons_self).trans ha
  rw [stretch_skip below ha, stretch_first_interval ha hb]

/-- Settles O20: the force lies at or below the first point, in an interval, or past the last one, where the last interval is extended. -/
theorem stretchOfCurve : Obligations.StretchOfCurve := by
  refine ⟨stretch_bounds, fun p ps f h => stretch_of_le_first ps h,
    fun pre post a b f rising ha hb => stretch_on_interval rising ha (.inl hb), fun pre a b f rising hb => ?_⟩
  obtain ⟨-, last, -⟩ := List.pairwise_append.1 rising
  have ab : a.1 < b.1 := List.rel_of_pairwise_cons last List.mem_cons_self
  exact stretch_on_interval rising (ab.trans hb) (.inr rfl)

end Sys2Proof.Machine
end

section
/-!
PROOF. The quantized error, the error clamps and their marks (R92, R93): what the deadline makes of a stand's gauge control record, said
once, and then the stages of the computation as far as the error.
-/

namespace Sys2Proof.Machine

/-! ### Steps that keep a part of one stand -/

/-- The configuration in force with a part of stand `k`, as one value that the steps of the deadline keep or do not. -/
def State.seen {α : Type} (p : Stand → α) (k : Nat) (s : State) : Conf × α := (s.force, p (s.stand k))

theorem State.seen_iff {α : Type} {p : Stand → α} {k : Nat} {s t : State} :
    t.seen p k = s.seen p k ↔ t.force = s.force ∧ p (t.stand k) = p (s.stand k) := Prod.mk_inj

section
variable {α : Type} {p : Stand → α} {k : Nat}

theorem State.seen_mapStand (h1 : 1 ≤ k) (h7 : k ≤ 7) (s : State) (j : Nat) (f : Stand → Stand)
    (h : p (f (s.stand j)) = p (s.stand j)) : (s.mapStand j f).seen p k = s.seen p k := by
  refine State.seen_iff.2 ⟨rfl, ?_⟩
  by_cases hj : j = k
  · subst hj; rw [State.stand_mapStand_same _ h1 h7, h]
  · rw [State.stand_mapStand_ne _ h1 h7 hj]

theorem State.seen_report (s : State) (kind : EventKind) (fields : List Int) : (s.report kind fields).seen p k = s.seen p k := rfl

theorem State.seen_forStands (n : Nat) (f : Nat → State → State) (hf : ∀ j s, (f j s).seen p k = s.seen p k) (s : State) :
    (s.forStands n f).seen p k = s.seen p k :=
  State.forStands_induct (P := fun t => t.seen p k = s.seen p k) n f (fun j t h => (hf j t).trans h) s rfl

theorem State.seen_foldl {β : Type} (f : State → β → State) (hf : ∀ s b, (f s b).seen p k = s.seen p k) (l : List β) (s : State) :
    (l.foldl f s).seen p k = s.seen p k :=
  foldl_induct (P := fun t => t.seen p k = s.seen p k) f (fun t b h => (hf t b).trans h) l s rfl

/-- A part that the blanking leaves alone is kept with the part left alone. -/
theorem State.seen_of_still (hp : ∀ st : Stand, p st.still = p st) {s t : State} (h : t.still = s.still) :
    t.seen p k = s.seen p k := by
  obtain ⟨-, -, force, -⟩ := State.still_fields h
  refine State.seen_iff.2 ⟨force, ?_⟩
  rw [← hp (t.stand k), State.still_stand h k, hp]

end

/-! ### One change made of every stand in turn -/

theorem foldl_mapStand_of_notMem {l : List Nat} {k : Nat} (h1 : 1 ≤ k) (h7 : k ≤ 7) (hk : k ∉ l) (f : Stand → Stand) (s : State) :
    (l.foldl (fun t j => t.mapStand j f) s).stand k = s.stand k := by
  induction l generalizing s with
  | nil => rfl
  | cons j l ih =>
    obtain ⟨hj, hl⟩ := not_or.1 (List.mem_cons.not.1 hk)
    rw [List.foldl_cons, ih hl, State.stand_mapStand_ne _ h1 h7 (Ne.symm hj)]

theorem foldl_mapStand_of_mem {l : List Nat} {k : Nat} (h1 : 1 ≤ k) (h7 : k ≤ 7) (once : l.Nodup) (hk : k ∈ l) (f : Stand → Stand)
    (s : State) : (l.foldl (fun t j => t.mapStand j f) s).stand k = f (s.stand k) := by
  induction l generalizing s with
  | nil => cases hk
  | cons j l ih =>
    obtain ⟨hj, hl⟩ := List.nodup_cons.1 once
    rw [List.foldl_cons]
    rcases List.mem_cons.1 hk with rfl | hk
    · rw [foldl_mapStand_of_notMem h1 h7 hj, State.stand_mapStand_same _ h1 h7]
    · have jk : j ≠ k := fun e => hj (e ▸ hk)
      rw [ih hl hk, State.stand_mapStand_ne _ h1 h7 jk]

theorem State.stand_forStands_mapStand {k n : Nat} (h1 : 1 ≤ k) (h7 : k ≤ 7) (hk : k ≤ n) (f : Stand → Stand) (s : State) :
    (s.forStands n (fun j t => t.mapStand j f)).stand k = f (s.stand k) :=
  foldl_mapStand_of_mem h1 h7 (List.Nodup.filter _ (by decide)) (mem_standsTo.2 ⟨h1, h7, hk⟩) f s

/-- The gauge control computation of a cycle is made once of each stand in force (R86). -/
theorem State.stand_forStands_computeGauge {k n : Nat} (h1 : 1 ≤ k) (h7 : k ≤ 7) (hk : k ≤ n) (s : State) :
    (s.forStands n State.computeGauge).stand k =
      { s.stand k with
        gcu := (s.stand k).gcu.compute (s.stand k).ctx (s.stand k).chans.gap.value (s.stand k).chans.force.value (s.stand k).sc } :=
  State.stand_forStands_mapStand h1 h7 hk _ s

/-! ### Before the computation: the measurements and the tests on force and gap -/

/-- What the measurements leave alone of a stand that its gauge control computation reads. -/
def Stand.unmeasured (st : Stand) : Ctx × Gcu × StandRec := (st.ctx, st.gcu, st.sc)

/-- What a stand's gauge control computation reads. -/
def Stand.gaugeInputs (st : Stand) : Ctx × Gcu × StandChans × Option Int × Int × Int :=
  (st.ctx, st.gcu, st.chans, st.sc.prevGap, st.sc.sMin, st.sc.sMax)

section
variable {k : Nat}

theorem State.seen_reportChange {α : Type} {p : Stand → α} (s : State) (b a : Chan) (ch owner : Nat) :
    (s.reportChange b a ch owner).seen p k = s.seen p k := by
  unfold State.reportChange; split_ifs <;> rfl

theorem State.unmeasured_measureStand (h1 : 1 ≤ k) (h7 : k ≤ 7) (j : Nat) (s : State) :
    (State.measureStand j s).seen Stand.unmeasured k = s.seen Stand.unmeasured k := by
  have reports : ∀ (a b : Bool) (t : State),
      (if a = true ∧ ¬b = true then t.reportMeas .sourceActive none (some j)
        else if b = true ∧ ¬a = true then t.reportMeas .sourceEnded none (some j) else t).seen Stand.unmeasured k
        = t.seen Stand.unmeasured k := by
    intro a b t; split_ifs <;> rfl
  refine (reports _ _ _).trans ((State.seen_foldl _ (fun t i => State.seen_reportChange t _ _ _ _) _ _).trans ?_)
  exact State.seen_mapStand h1 h7 s j _ rfl

theorem State.unmeasured_measureGauge (s : State) (g : Nat) :
    (s.measureGauge g).seen Stand.unmeasured k = s.seen Stand.unmeasured k := by
  unfold State.measureGauge; rw [State.seen_reportChange]; rfl

theorem State.unmeasured_measure (h1 : 1 ≤ k) (h7 : k ≤ 7) (s : State) :
    s.measure.seen Stand.unmeasured k = s.seen Stand.unmeasured k := by
  unfold State.measure
  rw [State.seen_foldl _ State.unmeasured_measureGauge, State.seen_forStands _ _ (State.unmeasured_measureStand h1 h7)]

/-- The load test changes the load flag and its runs alone of a stand's record. -/
theorem StandRec.load_limits (r : StandRec) (force fOn fOff : Int) :
    (r.load force fOn fOff).1.prevGap = r.prevGap ∧ (r.load force fOn fOff).1.sMin = r.sMin
      ∧ (r.load force fOn fOff).1.sMax = r.sMax := by
  unfold StandRec.load; split_ifs <;> exact ⟨rfl, rfl, rfl⟩

theorem State.gaugeInputs_testLoad (h1 : 1 ≤ k) (h7 : k ≤ 7) (j : Nat) (s : State) :
    (State.testLoad j s).seen Stand.gaugeInputs k = s.seen Stand.gaugeInputs k := by
  have tested : ∀ r : StandRec, r.prevGap = (s.stand j).sc.prevGap ∧ r.sMin = (s.stand j).sc.sMin ∧ r.sMax = (s.stand j).sc.sMax →
      (s.mapSc j (fun _ => r)).seen Stand.gaugeInputs k = s.seen Stand.gaugeInputs k := by
    rintro r ⟨gap, low, high⟩
    refine State.seen_mapStand h1 h7 s j _ ?_
    simp only [Stand.gaugeInputs, gap, low, high]
  unfold State.testLoad
  dsimp only
  split
  · rfl
  · split <;> exact tested _ (StandRec.load_limits _ _ _ _)

theorem State.gaugeInputs_testFollow (h1 : 1 ≤ k) (h7 : k ≤ 7) (j : Nat) (s : State) :
    (State.testFollow j s).seen Stand.gaugeInputs k = s.seen Stand.gaugeInputs k := by
  unfold State.testFollow
  dsimp only
  split
  · rfl
  · exact State.seen_mapStand h1 h7 s j _ rfl

/-! ### After the computation: the cascade, the references and the tests on them -/

/-- What the deadline leaves alone of a stand once its gauge control computation is made. -/
def Stand.gaugeResults (st : Stand) : StandChans × Quantities × Quantities × Marks × Marks :=
  (st.chans, st.gcu.q, st.gcu.qPrev, st.gcu.clamp, st.gcu.prevClamp)

theorem State.gaugeResults_still {s t : State} (h : t.still = s.still) :
    t.seen Stand.gaugeResults k = s.seen Stand.gaugeResults k := State.seen_of_still (fun _ => rfl) h

theorem State.gaugeResults_computeCascade (h1 : 1 ≤ k) (h7 : k ≤ 7) (s : State) :
    s.computeCascade.seen Stand.gaugeResults k = s.seen Stand.gaugeResults k := by
  refine State.seen_iff.2 ⟨rfl, ?_⟩
  unfold State.computeCascade State.stand
  dsimp only
  rw [PerStand.get_mapIdx _ _ h1 h7]
  split <;> rfl

theorem State.gaugeResults_formGapRef (h1 : 1 ≤ k) (h7 : k ≤ 7) (j : Nat) (s : State) :
    (State.formGapRef j s).seen Stand.gaugeResults k = s.seen Stand.gaugeResults k := State.seen_mapStand h1 h7 s j _ rfl

theorem State.gaugeResults_endCalibration (h1 : 1 ≤ k) (h7 : k ≤ 7) (s : State) (j : Nat) :
    (s.endCalibration j).seen Stand.gaugeResults k = s.seen Stand.gaugeResults k := by
  unfold State.endCalibration
  dsimp only
  rw [State.seen_report, State.seen_mapStand h1 h7]
  · exact State.gaugeResults_still (State.still_park s j _)
  · unfold Stand.gaugeResults; dsimp only; split <;> rfl

theorem State.gaugeResults_testCalibration (h1 : 1 ≤ k) (h7 : k ≤ 7) (j : Nat) (s : State) :
    (State.testCalibration j s).seen Stand.gaugeResults k = s.seen Stand.gaugeResults k := by
  unfold State.testCalibration
  dsimp only
  split
  · split
    case h_1 => exact State.seen_mapStand h1 h7 s j _ rfl
    case h_2 => exact State.seen_mapStand h1 h7 s j _ rfl
    case h_3 =>
      split
      · exact State.gaugeResults_endCalibration h1 h7 s j
      · rfl
    case h_4 => rfl
  · rfl

theorem State.still_testPositioning (j : Nat) (s : State) : (State.testPositioning j s).still = s.still := by
  have counted : ∀ f : Nat → Nat, (s.mapSc j (fun r => { r with posRun := f r.posRun })).still = s.still :=
    fun f => s.still_mapSc j _ (fun _ => rfl)
  unfold State.testPositioning
  dsimp only
  split_ifs
  · rw [State.still_changeState, counted (countTo 8)]
  · exact counted (countTo 8)
  · exact counted (fun _ => 0)
  · rfl

theorem State.still_testRunaway (j : Nat) (s : State) : (State.testRunaway j s).still = s.still := by
  unfold State.testRunaway
  split
  · exact s.still_mapSc j _ (fun _ => rfl)
  · rfl

theorem State.still_deadlineDone (s : State) : (s.mapTb (fun t => { t with deadlineDone := true })).still = s.still := rfl

end

/-! ### The deadline around the computation -/

/-- The deadline up to the gauge control computation. -/
def State.beforeGauge (s : State) : State :=
  let t := s.measure
  (t.forStands t.force.n State.testLoad).forStands s.liveN State.testFollow

/-- The deadline from the gauge control computation on, up to its sources; `n` stands are tested. -/
def State.afterGauge (n : Nat) (s : State) : State :=
  let t := s.computeCascade
  let t := (t.forStands t.force.n State.formGapRef).forStands n State.testCalibration
  let t := (t.forStands n State.testPositioning).forStands n (fun k u => if u.offHeld k then u else u.testThreading k)
  (t.forStands n State.testRunaway).mapTb (fun t => { t with deadlineDone := true })

theorem State.deadline_eq (s : State) : ∃ sources, s.deadline =
    (State.afterGauge s.liveN (s.beforeGauge.forStands s.beforeGauge.force.n State.computeGauge)).applySources sources := ⟨_, rfl⟩

/-- The deadline of a cycle that has not had it. -/
theorem exec_sampleDeadline {s : State} (due : s.tb.deadlineDone = false) : exec .sampleDeadline s = .next s.deadline :=
  congrArg Host.Outcome.next (if_neg (by rw [due]; exact Bool.false_ne_true))

section
variable {k : Nat}

theorem State.gaugeInputs_beforeGauge (h1 : 1 ≤ k) (h7 : k ≤ 7) (s : State) :
    s.beforeGauge.seen Stand.gaugeInputs k = s.measure.seen Stand.gaugeInputs k := by
  unfold State.beforeGauge
  dsimp only
  rw [State.seen_forStands _ _ (State.gaugeInputs_testFollow h1 h7), State.seen_forStands _ _ (State.gaugeInputs_testLoad h1 h7)]

theorem State.gaugeResults_afterGauge (h1 : 1 ≤ k) (h7 : k ≤ 7) (n : Nat) (s : State) :
    (State.afterGauge n s).seen Stand.gaugeResults k = s.seen Stand.gaugeResults k := by
  have threading : ∀ (j : Nat) (t : State), (if t.offHeld j = true then t else t.testThreading j).still = t.still := by
    intro j t; split
    · rfl
    · exact State.still_testThreading j t
  unfold State.afterGauge
  dsimp only
  rw [State.gaugeResults_still (State.still_deadlineDone _), State.gaugeResults_still (State.still_forStands _ _ State.still_testRunaway _),
    State.gaugeResults_still (State.still_forStands _ _ threading _),
    State.gaugeResults_still (State.still_forStands _ _ State.still_testPositioning _),
    State.seen_forStands _ _ (State.gaugeResults_testCalibration h1 h7), State.seen_forStands _ _ (State.gaugeResults_formGapRef h1 h7),
    State.gaugeResults_computeCascade h1 h7]

/-- The computation reads the previous reference and the limits alone of the stand's record. -/
theorem Gcu.compute_congr (g : Gcu) (ctx : Ctx) (gap force : Int) {r r' : StandRec} (prev : r.prevGap = r'.prevGap)
    (low : r.sMin = r'.sMin) (high : r.sMax = r'.sMax) : g.compute ctx gap force r = g.compute ctx gap force r' := by
  simp only [Gcu.compute, prev, low, high]

/-- The quantities and the clamp status that the deadline leaves of a stand in force are those of the gauge control computation, from the
context of the cycle and the measurements just made (R86). -/
theorem State.deadline_gauge (h1 : 1 ≤ k) (h7 : k ≤ 7) {s : State} (hk : k ≤ s.force.n) :
    let t := s.deadline.stand k
    let g := (s.stand k).gcu.compute (s.stand k).ctx t.chans.gap.value t.chans.force.value (s.stand k).sc
    t.gcu.q = g.q ∧ t.gcu.qPrev = g.qPrev ∧ t.gcu.clamp = g.clamp ∧ t.gcu.prevClamp = g.prevClamp := by
  obtain ⟨sources, stages⟩ := s.deadline_eq
  obtain ⟨forceMeasured, measured⟩ := State.seen_iff.1 (State.unmeasured_measure h1 h7 s)
  obtain ⟨forceBefore, before⟩ := State.seen_iff.1 (State.gaugeInputs_beforeGauge h1 h7 s)
  obtain ⟨-, after⟩ := State.seen_iff.1 ((State.gaugeResults_still (k := k) (State.still_applySources _ sources)).trans
    (State.gaugeResults_afterGauge h1 h7 s.liveN (s.beforeGauge.forStands s.beforeGauge.force.n State.computeGauge)))
  have inForce : k ≤ s.beforeGauge.force.n := by rw [forceBefore, forceMeasured]; exact hk
  rw [← stages, State.stand_forStands_computeGauge h1 h7 inForce] at after
  simp only [Stand.unmeasured, Stand.gaugeInputs, Stand.gaugeResults, Prod.mk.injEq] at measured before after
  obtain ⟨ctx, gcu, sc⟩ := measured
  obtain ⟨ctx', gcu', -, prev, low, high⟩ := before
  obtain ⟨chans, q, qPrev, clamp, prevClamp⟩ := after
  rw [sc] at prev low high
  rw [ctx', gcu', ctx, gcu, ← chans, Gcu.compute_congr _ _ _ _ prev low high] at q qPrev clamp prevClamp
  exact ⟨q, qPrev, clamp, prevClamp⟩

end

/-! ### The stages as far as the error (R91 to R93) -/

theorem Gcu.compute_eq_controlStages {ctx : Ctx} {x : StandSched} (state : ctx.state = .threading ∨ ctx.state = .rolling)
    (sched : ctx.sched = some x) (g : Gcu) (gap force : Int) (sc : StandRec) :
    let r := controlStages (decide (ctx.state = .threading)) (x.tuned g.live) ctx
      (estimate gap ctx.zero (stretch (curveOf ctx.curve) force)) sc.prevGap sc.sMin sc.sMax g.iacc g.prevClamp
    g.compute ctx gap force sc = { g.produce r.1 with iacc := r.2.1, clamp := r.2.2 } := by
  unfold Gcu.compute
  rcases state with state | state <;> rw [state, sched] <;> rfl

/-- The quantized error has the sign of the raw error. -/
theorem quantize_nonneg {e : Int} (q : Nat) (h : 0 ≤ e) : 0 ≤ quantize e q := by
  unfold quantize
  have := Int.tdiv_nonneg h (by positivity : (0 : Int) ≤ 2 ^ q)
  positivity

theorem quantize_neg (e : Int) (q : Nat) : quantize (-e) q = -quantize e q := by
  unfold quantize; rw [Int.neg_tdiv, Int.neg_mul]

theorem quantize_nonpos {e : Int} (q : Nat) (h : e ≤ 0) : quantize e q ≤ 0 := by
  have opposite := quantize_nonneg q (Int.neg_nonneg_of_nonpos h)
  rw [quantize_neg] at opposite
  omega

theorem natAbs_quantize (e : Int) (q : Nat) : (quantize e q).natAbs = e.natAbs / 2 ^ q * 2 ^ q := by
  unfold quantize
  rw [Int.natAbs_mul, Int.natAbs_tdiv, Int.natAbs_pow]; rfl

theorem quantize_zero (e : Int) : quantize e 0 = e := by
  simp only [quantize, Int.pow_zero, Int.tdiv_one, Int.mul_one]

theorem quantize_eq_zero {e : Int} {q : Nat} (h : e.natAbs < 2 ^ q) : quantize e q = 0 := by
  rw [← Int.natAbs_eq_zero, natAbs_quantize, Nat.div_eq_of_lt h, Nat.zero_mul]

/-- Settles O21: the error that the deadline leaves is the one of the computation's stages, with the fields of the live override. -/
theorem quantizedError : Obligations.QuantizedError := by
  intro s k x due h1 h7 hk state sched
  obtain ⟨q, -, clamp, -⟩ := State.deadline_gauge h1 h7 hk
  rw [Gcu.compute_eq_controlStages state sched] at q clamp
  refine ⟨s.deadline, _, _, exec_sampleDeadline due, by rw [q]; rfl, quantize_nonneg _, quantize_nonpos _, natAbs_quantize _ _, ?_,
    quantize_eq_zero, ?_, ?_, ?_⟩
  · intro whole
    rw [whole]; exact quantize_zero _
  · rw [q]
    simp only [controlStages, clampTo, decide_eq_true_eq]; rfl
  · rw [clamp]
    simp only [controlStages, limitMarks, decide_eq_true_eq]; rfl
  · rw [clamp]
    simp only [controlStages, limitMarks, decide_eq_true_eq]; rfl

end Sys2Proof.Machine
end

section
/-!
PROOF. The gap reference of a tripped stand (R128): the one computation of a stand's reference in the deadline, the law of TRIPPED case by
case, and the clamp to the limits in force, which moves none of its references.
-/

namespace Sys2Proof.Machine

/-! ### One step made of every stand in turn -/

section
variable {α : Type} {p : Stand → α} {k n : Nat} {f : Nat → State → State}

theorem State.seen_foldl_of_notMem (others : ∀ j s, j ≠ k → (f j s).seen p k = s.seen p k) {l : List Nat} (hk : k ∉ l) (s : State) :
    (l.foldl (fun t j => f j t) s).seen p k = s.seen p k := by
  induction l generalizing s with
  | nil => rfl
  | cons j l ih =>
    obtain ⟨hj, hl⟩ := not_or.1 (List.mem_cons.not.1 hk)
    exact (ih hl _).trans (others j s (Ne.symm hj))

/-- A step that leaves the other stands alone makes of stand `k` in force what it makes of it in some state with the same stand `k`: the
one that the stands before it have left. -/
theorem State.seen_forStands_once (h1 : 1 ≤ k) (h7 : k ≤ 7) (hk : k ≤ n) (others : ∀ j s, j ≠ k → (f j s).seen p k = s.seen p k)
    (s : State) : ∃ t : State, t.seen p k = s.seen p k ∧ (s.forStands n f).seen p k = (f k t).seen p k := by
  obtain ⟨pre, post, stands⟩ := List.append_of_mem (mem_standsTo.2 ⟨h1, h7, hk⟩)
  have once : (pre ++ k :: post).Nodup := stands ▸ List.Nodup.filter _ (by decide)
  obtain ⟨elsewhere, -⟩ := List.nodup_cons.1 (List.nodup_middle.1 once)
  obtain ⟨notPre, notPost⟩ := not_or.1 (List.mem_append.not.1 elsewhere)
  refine ⟨pre.foldl (fun t j => f j t) s, State.seen_foldl_of_notMem others notPre s, ?_⟩
  rw [State.forStands, stands, List.foldl_append, List.foldl_cons, State.seen_foldl_of_notMem others notPost]

end

/-! ### Where the deadline forms the reference -/

section
variable {k : Nat}

theorem State.gaugeInputs_computeCascade (h1 : 1 ≤ k) (h7 : k ≤ 7) (s : State) :
    s.computeCascade.seen Stand.gaugeInputs k = s.seen Stand.gaugeInputs k := by
  refine State.seen_iff.2 ⟨rfl, ?_⟩
  unfold State.computeCascade State.stand
  dsimp only
  rw [PerStand.get_mapIdx _ _ h1 h7]
  split <;> rfl

/-- The gap reference that stands on the stand's line: a part that the tests after the references leave alone. -/
def Stand.lineRef (st : Stand) : Option Int := st.sc.gapRef

theorem State.lineRef_still {s t : State} (h : t.still = s.still) : t.seen Stand.lineRef k = s.seen Stand.lineRef k :=
  State.seen_of_still (fun _ => rfl) h

theorem State.lineRef_formGapRef (h1 : 1 ≤ k) (h7 : k ≤ 7) (s : State) :
    ((State.formGapRef k s).stand k).lineRef = (s.stand k).formRef (s.force.stands.get k) := by
  unfold State.formGapRef State.mapSc
  rw [State.stand_mapStand_same _ h1 h7]
  unfold Stand.lineRef
  dsimp only
  split <;> rfl

/-- Every stand in force forms its reference once, by the law of its state (R36). -/
theorem State.lineRef_forStands_formGapRef (h1 : 1 ≤ k) (h7 : k ≤ 7) {n : Nat} (hk : k ≤ n) (s : State) :
    ((s.forStands n State.formGapRef).stand k).lineRef = (s.stand k).formRef (s.force.stands.get k) := by
  have others : ∀ j t, j ≠ k → (State.formGapRef j t).seen id k = t.seen id k :=
    fun j t hj => State.seen_iff.2 ⟨rfl, State.stand_mapStand_ne t h1 h7 hj _⟩
  obtain ⟨t, same, formed⟩ := State.seen_forStands_once h1 h7 hk others s
  obtain ⟨force, stand⟩ := State.seen_iff.1 same
  obtain ⟨-, formed⟩ := Prod.mk_inj.1 formed
  dsimp only [id] at stand formed
  rw [formed, State.lineRef_formGapRef h1 h7, stand, force]

theorem State.lineRef_endCalibration (h1 : 1 ≤ k) (h7 : k ≤ 7) (s : State) (j : Nat) :
    (s.endCalibration j).seen Stand.lineRef k = s.seen Stand.lineRef k := by
  unfold State.endCalibration
  dsimp only
  rw [State.seen_report, State.seen_mapStand h1 h7 _ _ _ rfl]
  exact State.lineRef_still (State.still_park s j _)

theorem State.lineRef_testCalibration (h1 : 1 ≤ k) (h7 : k ≤ 7) (j : Nat) (s : State) :
    (State.testCalibration j s).seen Stand.lineRef k = s.seen Stand.lineRef k := by
  have calibrated : ∀ f : Cal → Cal, (s.mapCal j f).seen Stand.lineRef k = s.seen Stand.lineRef k :=
    fun f => State.seen_mapStand h1 h7 s j _ rfl
  unfold State.testCalibration
  dsimp only
  split
  · split
    case h_1 => exact calibrated _
    case h_2 => exact calibrated _
    case h_3 =>
      split
      · exact State.lineRef_endCalibration h1 h7 s j
      · rfl
    case h_4 => rfl
  · rfl

theorem State.still_threadingUnheld (j : Nat) (s : State) :
    (if s.offHeld j = true then s else s.testThreading j).still = s.still := by
  split
  · rfl
  · exact State.still_testThreading j s

/-- The tests that follow the references move none of them. -/
theorem State.lineRef_afterGauge (h1 : 1 ≤ k) (h7 : k ≤ 7) (n : Nat) (s : State) :
    ((State.afterGauge n s).stand k).lineRef
      = ((s.computeCascade.forStands s.computeCascade.force.n State.formGapRef).stand k).lineRef := by
  unfold State.afterGauge
  refine (State.seen_iff.1 ?_).2
  dsimp only
  rw [State.lineRef_still (State.still_deadlineDone _), State.lineRef_still (State.still_forStands _ _ State.still_testRunaway _),
    State.lineRef_still (State.still_forStands _ _ State.still_threadingUnheld _),
    State.lineRef_still (State.still_forStands _ _ State.still_testPositioning _),
    State.seen_forStands _ _ (State.lineRef_testCalibration h1 h7)]

/-- The gap reference that the deadline leaves of a stand in force is formed by the law of its state, from the context of the cycle, the
previous reference and the limits that it began with (R36). -/
theorem State.deadline_gapRef (h1 : 1 ≤ k) (h7 : k ≤ 7) {s : State} (hk : k ≤ s.force.n) :
    ∃ st : Stand, st.ctx = (s.stand k).ctx ∧ st.sc.prevGap = (s.stand k).sc.prevGap ∧ st.sc.sMin = (s.stand k).sc.sMin
      ∧ st.sc.sMax = (s.stand k).sc.sMax ∧ (s.deadline.stand k).sc.gapRef = st.formRef (s.force.stands.get k) := by
  obtain ⟨sources, stages⟩ := s.deadline_eq
  set gauged := s.beforeGauge.forStands s.beforeGauge.force.n State.computeGauge with gauged_eq
  obtain ⟨forceMeasured, measured⟩ := State.seen_iff.1 (State.unmeasured_measure h1 h7 s)
  obtain ⟨forceBefore, before⟩ := State.seen_iff.1 (State.gaugeInputs_beforeGauge h1 h7 s)
  obtain ⟨forceGauged, -⟩ := State.seen_iff.1
    (State.seen_forStands (p := fun _ => ()) (k := k) s.beforeGauge.force.n State.computeGauge (fun _ _ => rfl) s.beforeGauge)
  obtain ⟨forceCascade, cascade⟩ := State.seen_iff.1 (State.gaugeInputs_computeCascade h1 h7 gauged)
  obtain ⟨-, applied⟩ := State.seen_iff.1
    (State.lineRef_still (k := k) (State.still_applySources (State.afterGauge s.liveN gauged) sources))
  have force : gauged.computeCascade.force = s.force := by rw [forceCascade, forceGauged, forceBefore, forceMeasured]
  have inForce : k ≤ s.beforeGauge.force.n := by rw [forceBefore, forceMeasured]; exact hk
  rw [gauged_eq, State.stand_forStands_computeGauge h1 h7 inForce] at cascade
  simp only [Stand.unmeasured, Stand.gaugeInputs, Prod.mk.injEq] at measured before cascade
  obtain ⟨ctx, -, sc⟩ := measured
  obtain ⟨ctx', -, -, prev', low', high'⟩ := before
  obtain ⟨ctx'', -, -, prev, low, high⟩ := cascade
  rw [sc] at prev' low' high'
  refine ⟨gauged.computeCascade.stand k, ctx''.trans (ctx'.trans ctx), prev.trans prev', low.trans low', high.trans high', ?_⟩
  calc (s.deadline.stand k).sc.gapRef
      _ = ((State.afterGauge s.liveN gauged).stand k).lineRef := by rw [← applied, ← stages]; rfl
      _ = (gauged.computeCascade.stand k).formRef (s.force.stands.get k) := by
        rw [State.lineRef_afterGauge h1 h7, State.lineRef_forStands_formGapRef h1 h7 (by rw [force]; exact hk), force]

end

/-! ### The law of TRIPPED (R128) -/

theorem Stand.formRef_tripped {st : Stand} (state : st.ctx.state = .tripped) (c : StandConf) :
    st.formRef c =
      (trippedRef st.ctx.action st.sc.prevGap (clampTo st.sc.sMin st.sc.sMax c.escapeGap) c.escapeSlew).map
        (clampTo st.sc.sMin st.sc.sMax) := by
  unfold Stand.formRef; rw [state]

theorem State.deadline_trippedRef {k : Nat} (h1 : 1 ≤ k) (h7 : k ≤ 7) {s : State} (hk : k ≤ s.force.n)
    (state : (s.stand k).ctx.state = .tripped) :
    let st := s.stand k
    let c := s.force.stands.get k
    (s.deadline.stand k).sc.gapRef =
      (trippedRef st.ctx.action st.sc.prevGap (clampTo st.sc.sMin st.sc.sMax c.escapeGap) c.escapeSlew).map
        (clampTo st.sc.sMin st.sc.sMax) := by
  obtain ⟨st, ctx, prev, low, high, formed⟩ := State.deadline_gapRef h1 h7 hk
  rw [formed, Stand.formRef_tripped (by rw [ctx]; exact state), ctx, prev, low, high]

theorem trippedRef_release (prev : Option Int) (target slew : Int) : trippedRef .release prev target slew = none := rfl

/-- A RELEASED reference stays RELEASED. -/
theorem trippedRef_released (a : Action) (target slew : Int) : trippedRef a none target slew = none := by
  cases a <;> rfl

theorem trippedRef_hold (p target slew : Int) : trippedRef .hold (some p) target slew = some p := rfl

theorem trippedRef_opening_reached {p target : Int} (h : target ≤ p) (slew : Int) :
    trippedRef .opening (some p) target slew = some p := if_pos h

theorem trippedRef_opening_below {p target : Int} (h : p < target) (slew : Int) :
    trippedRef .opening (some p) target slew = some (min target (p + slew)) := if_neg (not_le.2 h)

/-- Short of RELEASE a driven reference stays driven: it is repeated, or it rises toward the target that it is below. -/
theorem trippedRef_driven {a : Action} (notRelease : a ≠ .release) {p target slew : Int} (up : 0 ≤ slew) :
    ∃ g, trippedRef a (some p) target slew = some g ∧ p ≤ g ∧ g ≤ max target p := by
  have repeated : p ≤ p ∧ p ≤ max target p := ⟨le_refl p, le_max_right target p⟩
  cases a with
  | nothing => exact ⟨p, rfl, repeated⟩
  | warn => exact ⟨p, rfl, repeated⟩
  | hold => exact ⟨p, rfl, repeated⟩
  | opening =>
    rcases le_or_gt target p with reached | below
    · exact ⟨p, trippedRef_opening_reached reached slew, repeated⟩
    · exact ⟨_, trippedRef_opening_below below slew, by omega, by omega⟩
  | release => exact absurd rfl notRelease

/-! ### The clamp to the limits in force (R36) -/

theorem clampTo_of_mem {lo hi v : Int} (low : lo ≤ v) (high : v ≤ hi) : clampTo lo hi v = v := by
  rw [clampTo, min_eq_right high, max_eq_right low]

theorem clampTo_le {lo hi : Int} (ordered : lo ≤ hi) (v : Int) : clampTo lo hi v ≤ hi :=
  max_le ordered (min_le_left hi v)

/-- From a previous reference within the limits, the law of TRIPPED leads to none outside them. -/
theorem map_clampTo_trippedRef {p target slew lo hi : Int} (low : lo ≤ p) (high : p ≤ hi) (top : target ≤ hi) (up : 0 ≤ slew)
    (a : Action) : (trippedRef a (some p) target slew).map (clampTo lo hi) = trippedRef a (some p) target slew := by
  by_cases release : a = .release
  · rw [release, trippedRef_release, Option.map_none]
  · obtain ⟨g, formed, above, below⟩ := trippedRef_driven release up
    rw [formed, Option.map_some, clampTo_of_mem (low.trans above) (below.trans (max_le top high))]

/-- Settles O23: the reference is that of the law of TRIPPED, and it lies within the limits in force, so that the clamp keeps it. -/
theorem trippedGapReference : Obligations.TrippedGapReference := by
  intro s k due h1 h7 hk state
  refine ⟨s.deadline, exec_sampleDeadline due, ?_⟩
  have law := State.deadline_trippedRef h1 h7 hk state
  dsimp only at law ⊢
  rw [law]
  refine ⟨fun release => ?_, fun released => ?_, fun p driven low high up => ?_⟩
  · rw [release, trippedRef_release, Option.map_none]
  · rw [released, trippedRef_released, Option.map_none]
  · have top := clampTo_le (low.trans high) (s.force.stands.get k).escapeGap
    rw [driven, map_clampTo_trippedRef low high top up]
    refine ⟨fun hold => ?_, fun opening reached => ?_, fun opening below => ?_, fun notRelease => ?_⟩
    · rw [hold, trippedRef_hold]
    · rw [opening]; exact trippedRef_opening_reached reached _
    · rw [opening]; exact trippedRef_opening_below below _
    · obtain ⟨g, formed, above, below⟩ := trippedRef_driven notRelease up
      exact ⟨g, formed, above, below.trans (max_le top high)⟩

end Sys2Proof.Machine
end

section
/-!
PROOF. The triggers that a part of a cycle brings (R171, R177): everything between two strobes leaves the cycle count, the trace memory and
the trace channels alone, and gives the trace unit triggers of its own cycle at most.
-/

namespace Sys2Proof.Machine

/-- `t` lies in the cycle of `s`, and the trace unit has taken triggers of that cycle since, and nothing else. -/
def State.Triggered (s t : State) : Prop :=
  t.tb.cycle = s.tb.cycle ∧ ∃ late : List Labelled,
    t.trace = { s.trace with triggers := s.trace.triggers ++ late } ∧ ∀ x ∈ late, x.cycle = s.tb.cycle

namespace State.Triggered

theorem refl (s : State) : s.Triggered s :=
  ⟨rfl, [], by rw [List.append_nil], fun _ h => absurd h List.not_mem_nil⟩

variable {s t : State}

/-- What changes neither the cycle count nor the trace unit brings no trigger. -/
theorem of_same {u : State} (h : s.Triggered t) (cycle : u.tb.cycle = t.tb.cycle) (trace : u.trace = t.trace) :
    s.Triggered u := by
  unfold State.Triggered; rw [cycle, trace]; exact h

theorem trigger (h : s.Triggered t) (x : Trigger) : s.Triggered (t.trigger x) := by
  obtain ⟨cycle, late, trace, labels⟩ := h
  refine ⟨cycle, late ++ [⟨x, none, t.tb.cycle⟩], ?_, fun y hy => ?_⟩
  · unfold State.trigger State.mapTrace; rw [trace, ← List.append_assoc]
  · rcases List.mem_append.1 hy with old | new
    · exact labels y old
    · rw [List.mem_singleton.1 new]; exact cycle

theorem foldl {α : Type} (f : State → α → State) (hf : ∀ t a, s.Triggered t → s.Triggered (f t a)) (l : List α)
    (h : s.Triggered t) : s.Triggered (l.foldl f t) := foldl_induct f hf l t h

theorem foldl_fst {α β : Type} (f : State × β → α → State × β) (hf : ∀ p a, s.Triggered p.1 → s.Triggered (f p a).1)
    (l : List α) {p : State × β} (h : s.Triggered p.1) : s.Triggered (l.foldl f p).1 :=
  foldl_induct (P := fun p : State × β => s.Triggered p.1) f hf l p h

theorem forStands (n : Nat) (f : Nat → State → State) (hf : ∀ k t, s.Triggered t → s.Triggered (f k t)) (h : s.Triggered t) :
    s.Triggered (t.forStands n f) := State.forStands_induct n f hf t h

/-! ### Updates of the other units -/

theorem mapStand (h : s.Triggered t) (k : Nat) (f : Stand → Stand) : s.Triggered (t.mapStand k f) := h.of_same rfl rfl

theorem mapSc (h : s.Triggered t) (k : Nat) (f : StandRec → StandRec) : s.Triggered (t.mapSc k f) := h.of_same rfl rfl

theorem mapStands (h : s.Triggered t) (f : Nat → Stand → Stand) : s.Triggered (t.mapStands f) := h.of_same rfl rfl

theorem mapTrack (h : s.Triggered t) (f : Tracker → Tracker) : s.Triggered (t.mapTrack f) := h.of_same rfl rfl

theorem mapBar (h : s.Triggered t) (id : Nat) (f : Bar → Bar) : s.Triggered (t.mapBar id f) := h.of_same rfl rfl

theorem mapTrips (h : s.Triggered t) (f : TripUnit → TripUnit) : s.Triggered (t.mapTrips f) := h.of_same rfl rfl

theorem mapLink (h : s.Triggered t) (f : Link → Link) : s.Triggered (t.mapLink f) := h.of_same rfl rfl

theorem mapTb (h : s.Triggered t) (f : Timebase → Timebase) (cycle : (f t.tb).cycle = t.tb.cycle) : s.Triggered (t.mapTb f) :=
  h.of_same cycle rfl

theorem report (h : s.Triggered t) (kind : EventKind) (fields : List Int) : s.Triggered (t.report kind fields) := h.of_same rfl rfl

/-! ### Changes of state and targets -/

theorem changeState (h : s.Triggered t) (k : Nat) (new : StandState) (why : Reason) : s.Triggered (t.changeState k new why) :=
  h.of_same rfl rfl

theorem park (h : s.Triggered t) (k : Nat) (why : Reason) : s.Triggered (t.park k why) := h.of_same rfl rfl

theorem position (h : s.Triggered t) (k : Nat) (why : Reason) : s.Triggered (t.position k why) := h.of_same rfl rfl

theorem unserve (h : s.Triggered t) (k : Nat) : s.Triggered (t.unserve k) := h.of_same rfl rfl

theorem parkOrPosition (h : s.Triggered t) (k : Nat) (c : Prop) [Decidable c] (none_ why : Reason) :
    s.Triggered ((if c then t.park k none_ else t.position k why).unserve k) := by
  split
  · exact (h.park k none_).unserve k
  · exact (h.position k why).unserve k

theorem retargetStand (h : s.Triggered t) (old : State) (re : Bool) (k : Nat) : s.Triggered (State.retargetStand old re k t) := by
  have targeted := h.mapSc k (fun r => { r with target := t.targetOf k })
  unfold State.retargetStand
  dsimp only
  split
  · exact h
  · split
    · split
      · exact targeted.park k _
      · exact targeted.mapSc k _
    · split
      · exact targeted.park k _
      · split
        · exact targeted
        · exact targeted.position k _
    · exact targeted

theorem retarget (h : s.Triggered t) (old : State) (re : Bool) : s.Triggered (t.retarget old re) :=
  h.forStands _ _ (fun k _ h => h.retargetStand old re k)

theorem settleDamage (h : s.Triggered t) (slot : Nat) : s.Triggered (t.settleDamage slot) := by
  unfold State.settleDamage
  dsimp only
  split
  · exact h.of_same rfl rfl
  · exact h

theorem removeBar (h : s.Triggered t) (b : Bar) : s.Triggered (t.removeBar b) := by
  refine retarget ?_ t false
  unfold State.dropBar
  dsimp only
  split
  · refine settleDamage ?_ _
    exact h.of_same rfl rfl
  · exact h.of_same rfl rfl

theorem unserveGone (h : s.Triggered t) (k : Nat) : s.Triggered (t.unserveGone k) := by
  unfold State.unserveGone
  split
  · split
    · exact h.unserve k
    · exact h
  · exact h

/-! ### Trips -/

theorem moveToTripped (h : s.Triggered t) (k : Nat) : s.Triggered (t.moveToTripped k) := by
  unfold State.moveToTripped State.tripCalibration
  dsimp only
  split <;> exact h.of_same rfl rfl

theorem giveAction (h : s.Triggered t) (src : Source) (k : Nat) (a : Action) : s.Triggered (t.giveAction src k a) := by
  unfold State.giveAction
  dsimp only
  split
  · exact (h.mapStand k _).moveToTripped k
  · exact h.mapStand k _

/-- A record gives the trigger of any trip, and that of each stand it lists as waiting (R136, R177). -/
theorem addRecord (h : s.Triggered t) (src : Source) (l : List Affected) : s.Triggered (t.addRecord src l) := by
  unfold State.addRecord
  exact foldl _ (fun _ k h => h.trigger (.tripAt k)) _ (((h.mapTrips _).report _ _).trigger .tripAny)

theorem abandonBar (h : s.Triggered t) (id : Nat) : s.Triggered (t.abandonBar id).1 := by
  unfold State.abandonBar
  split
  · exact h
  · exact (h.removeBar _).forStands _ _ (fun k _ h => h.unserveGone k)

theorem applySource (h : s.Triggered t) (src : Source) (fresh : Bool) : s.Triggered (t.applySource src fresh).1 := by
  unfold State.applySource
  dsimp only
  refine foldl_fst _ ?abandon _ ?_
  case abandon => exact fun p id h => h.abandonBar id
  have acted := fun l : List (Nat × Action) => h.foldl (fun t p => t.giveAction src p.1 p.2) (fun _ p h => h.giveAction src p.1 p.2) l
  have unserved := fun n l => (acted l).forStands n (fun k t => t.unserveGone k) (fun k _ h => h.unserveGone k)
  split
  · exact (unserved _ _).addRecord _ _
  · exact unserved _ _

theorem applyAll (h : s.Triggered t) (n : Nat) (l : List (Source × Bool)) : s.Triggered (State.applyAll n l t) := by
  induction n generalizing l t with
  | zero => exact h
  | succ n ih =>
    cases l with
    | nil => exact h
    | cons p l => exact ih (h.applySource p.1 p.2) _

theorem applySources (h : s.Triggered t) (l : List (Source × Bool)) : s.Triggered (t.applySources l) := h.applyAll _ _

theorem applyEvents (h : s.Triggered t) (l : List Source) : s.Triggered (t.applyEvents l) := h.applySources _

/-! ### The deadline -/

theorem reportChange (h : s.Triggered t) (b a : Chan) (ch owner : Nat) : s.Triggered (t.reportChange b a ch owner) := by
  unfold State.reportChange
  split_ifs
  · exact h.report _ _
  · exact h.report _ _
  · exact h

theorem measureStand (h : s.Triggered t) (k : Nat) : s.Triggered (State.measureStand k t) := by
  have channels : ∀ (st : Stand) (b a : StandChans), s.Triggered ([0, 1, 2].foldl
      (fun u i => u.reportChange (b.get i) (a.get i) (3 * (k - 1) + i) k) (t.mapStand k (fun _ => st))) :=
    fun st b a => foldl _ (fun _ i h => h.reportChange _ _ _ _) _ (h.mapStand k _)
  unfold State.measureStand
  dsimp only
  split_ifs
  · exact (channels _ _ _).report _ _
  · exact (channels _ _ _).report _ _
  · exact channels _ _ _

theorem measureGauge (h : s.Triggered t) (g : Nat) : s.Triggered (t.measureGauge g) := by
  unfold State.measureGauge
  refine reportChange ?_ _ _ _ _
  exact h.of_same rfl rfl

theorem measure (h : s.Triggered t) : s.Triggered t.measure :=
  foldl _ (fun _ g h => h.measureGauge g) _ (h.forStands _ _ (fun k _ h => h.measureStand k))

theorem testLoad (h : s.Triggered t) (k : Nat) : s.Triggered (State.testLoad k t) := by
  unfold State.testLoad
  dsimp only
  split
  · exact h
  · split <;> exact h.of_same rfl rfl

theorem testFollow (h : s.Triggered t) (k : Nat) : s.Triggered (State.testFollow k t) := by
  unfold State.testFollow
  dsimp only
  split
  · exact h
  · exact h.of_same rfl rfl

theorem beforeGauge (h : s.Triggered t) : s.Triggered t.beforeGauge :=
  (h.measure.forStands _ _ (fun k _ h => h.testLoad k)).forStands _ _ (fun k _ h => h.testFollow k)

theorem testCalibration (h : s.Triggered t) (k : Nat) : s.Triggered (State.testCalibration k t) := by
  unfold State.testCalibration
  dsimp only
  split
  · split
    case h_1 => exact h.of_same rfl rfl
    case h_2 => exact h.of_same rfl rfl
    case h_3 =>
      split
      · exact h.of_same rfl rfl
      · exact h
    case h_4 => exact h
  · exact h

theorem testPositioning (h : s.Triggered t) (k : Nat) : s.Triggered (State.testPositioning k t) := by
  unfold State.testPositioning
  dsimp only
  split_ifs
  · exact h.of_same rfl rfl
  · exact h.of_same rfl rfl
  · exact h.of_same rfl rfl
  · exact h

theorem testThreading (h : s.Triggered t) (k : Nat) : s.Triggered (State.testThreading k t) := by
  unfold State.testThreading
  dsimp only
  split_ifs
  · exact h.of_same rfl rfl
  · exact h.of_same rfl rfl
  · exact h.of_same rfl rfl
  · exact h.of_same rfl rfl
  · exact h
  · exact h

theorem testRunaway (h : s.Triggered t) (k : Nat) : s.Triggered (State.testRunaway k t) := by
  unfold State.testRunaway
  split
  · exact h.of_same rfl rfl
  · exact h

theorem afterGauge (h : s.Triggered t) (n : Nat) : s.Triggered (State.afterGauge n t) := by
  have cascade : s.Triggered t.computeCascade := h.of_same rfl rfl
  have referenced := cascade.forStands t.computeCascade.force.n State.formGapRef (fun k _ h => h.of_same rfl rfl)
  have positioned := (referenced.forStands n _ (fun k _ h => h.testCalibration k)).forStands n _ (fun k _ h => h.testPositioning k)
  have threaded := positioned.forStands n (fun k u => if u.offHeld k then u else u.testThreading k) (fun k u h => by
    split
    · exact h
    · exact h.testThreading k)
  exact (threaded.forStands n _ (fun k _ h => h.testRunaway k)).of_same rfl rfl

theorem deadline (h : s.Triggered t) : s.Triggered t.deadline := by
  obtain ⟨sources, stages⟩ := t.deadline_eq
  have gauged := h.beforeGauge.forStands t.beforeGauge.force.n State.computeGauge (fun _ _ h => h.of_same rfl rfl)
  rw [stages]
  exact (gauged.afterGauge _).applySources sources

/-! ### The tracker -/

theorem passAll (h : s.Triggered t) (l : List Seg) : s.Triggered (t.passAll l) := by
  refine h.foldl _ (fun t x h => ?_) l
  unfold State.passGauges
  refine h.foldl _ (fun u g h => ?_) _
  split
  · exact h
  · dsimp only
    split
    · split <;> exact h.of_same rfl rfl
    · exact h

theorem releaseStand (h : s.Triggered t) (k id : Nat) : s.Triggered (t.releaseStand k id).1 := by
  unfold State.releaseStand
  dsimp only
  split
  · exact h
  · split
    · exact h.parkOrPosition k _ _ _
    · exact h.parkOrPosition k _ _ _
    · exact h.parkOrPosition k _ _ _
    · exact h.unserve k
    · exact h

theorem releaseBar (h : s.Triggered t) (b : Bar) : s.Triggered (t.releaseBar b).1 := by
  unfold State.releaseBar
  dsimp only
  refine foldl_fst _ ?_ _ (h.removeBar b)
  exact fun _ k h => h.releaseStand k b.id

theorem release (h : s.Triggered t) : s.Triggered t.release.1 := by
  unfold State.release
  refine foldl_fst _ (fun p x h => ?_) _ (h.of_same rfl rfl)
  dsimp only
  split
  · split
    · exact h.releaseBar _
    · exact h
  · exact h

theorem trackFull (h : s.Triggered t) (b : Bar) : s.Triggered (t.trackFull b) := by
  unfold State.trackFull
  split
  · exact h
  · exact h.of_same rfl rfl

theorem bodyBirths (h : s.Triggered t) (n : Nat) : s.Triggered (State.bodyBirths n t) := by
  induction n generalizing t with
  | zero => exact h
  | succ n ih =>
    unfold State.bodyBirths
    split
    · exact h
    · split
      · exact h
      · dsimp only
        split_ifs
        · exact ih (h.of_same rfl rfl)
        · exact (h.trackFull _).of_same rfl rfl
        · exact ih (h.of_same rfl rfl)
        · exact h

theorem declareMissed (h : s.Triggered t) : s.Triggered t.declareMissed.1 := by
  refine h.foldl _ (fun u x h => ?_) _
  exact h.mapBar x.bar _

theorem endTests (h : s.Triggered t) : s.Triggered t.endTests := by
  unfold State.endTests
  split
  · exact h
  · refine mapTb (h.forStands _ _ (fun k u h => ?_)) _ rfl
    unfold State.testTailout
    dsimp only
    split
    · exact h.parkOrPosition k _ _ _
    · exact h

/-- What ends an update or a judgement: the heads missed, the end tests and the sources (R63). -/
theorem concluded (h : s.Triggered t) (l : List Source) : s.Triggered (t.declareMissed.1.endTests.applyEvents l) :=
  h.declareMissed.endTests.applyEvents l

theorem trackerUpdate (h : s.Triggered t) : s.Triggered t.trackerUpdate := by
  have advanced : s.Triggered t.advance.crossing := h.of_same rfl rfl
  have born := (advanced.passAll t.track.segs).release.bodyBirths 257
  exact (born.mapTb _ rfl).concluded _

/-! ### Load changes judged -/

/-- HEAD AT STAND comes with its trigger (R82, R177). -/
theorem headAtStand (h : s.Triggered t) (k bar seq : Nat) (c : Option Int) : s.Triggered (t.headAtStand k bar seq c) :=
  (h.report _ _).trigger _

/-- TAIL AT STAND comes with its trigger (R82, R177). -/
theorem tailAtStand (h : s.Triggered t) (k bar seq : Nat) (old : Nat × Int) (dropped : Nat) (late : Bool) :
    s.Triggered (t.tailAtStand k bar seq old dropped late) := (h.report _ _).trigger _

theorem tailAtOne (h : s.Triggered t) (b : Bar) : s.Triggered (t.tailAtOne b).1 := by
  refine tailAtStand ?_ _ _ _ _ _ _
  unfold State.giveTail
  split
  · exact h.of_same rfl rfl
  · split
    · exact h.of_same rfl rfl
    · dsimp only
      split
      · exact ((((h.trackFull b).mapTrack _).mapBar _ _).mapBar _ _).retarget _ _
      · exact ((h.trackFull b).mapTrack _).mapBar _ _

theorem thread (h : s.Triggered t) (k bar : Nat) : s.Triggered (t.thread k bar) :=
  ((h.mapSc k _).changeState k _ _).mapStand k _

theorem createBar (h : s.Triggered t) (x : Staged) : s.Triggered (t.createBar x) := by
  unfold State.createBar
  dsimp only
  refine retarget (headAtStand (thread ?_ _ _) _ _ _ _) _ _
  exact h.of_same rfl rfl

theorem headBirth (h : s.Triggered t) : s.Triggered t.headBirth.1 := by
  have tailed : s.Triggered t.oldTail := by
    unfold State.oldTail
    split
    · exact (h.tailAtOne _).report _ _
    · exact h
  unfold State.headBirth
  dsimp only
  split
  · split
    · exact tailed.createBar _
    · exact tailed
  · exact tailed

theorem headArrives (h : s.Triggered t) (k : Nat) : s.Triggered (t.headArrives k).1 := by
  unfold State.headArrives
  split
  · have snapped : ∀ x, s.Triggered (t.headSnap k x) := fun x => (h.mapTrack _).passAll _
    exact ((((snapped _).mapBar _ _).thread _ _).headAtStand _ _ _ _).retarget _ _
  · exact h

theorem passGauges (h : s.Triggered t) (x : Seg) : s.Triggered (t.passGauges x.seq x.pos) := h.passAll [x]

theorem tailLeaves (h : s.Triggered t) (k : Nat) : s.Triggered (t.tailLeaves k).1 := by
  unfold State.tailLeaves
  dsimp only
  split
  · exact h
  · split
    · split
      · exact (h.tailAtOne _).changeState _ _ _
      · exact h
    · split
      · have snapped : ∀ x, s.Triggered (t.tailSnap k x).1 := fun x => (h.mapTrack _).passGauges x
        exact (tailAtStand (snapped _) _ _ _ _ _ _).changeState _ _ _
      · exact ((h.tailAtStand _ _ _ _ _ _).report _ _).changeState _ _ _
      · exact h

theorem loadEffect (h : s.Triggered t) (x : LoadChange) : s.Triggered (t.loadEffect x).1 := by
  unfold State.loadEffect
  split
  case h_1 =>
    split
    · exact h.headBirth
    · exact h.headArrives _
  case h_6 => exact h.tailLeaves _
  case h_7 => exact h.tailLeaves _
  all_goals exact h

theorem judge (h : s.Triggered t) (k : Nat) : s.Triggered (t.judge k) := by
  unfold State.judge
  split
  · split
    · unfold State.judgeHeld
      dsimp only
      refine concluded ?_ _
      split
      · exact (h.mapTrack _).loadEffect _
      · exact ((h.mapTrack _).loadEffect _).testThreading _
    · exact h
  · exact h

end State.Triggered

/-! ### The work outstanding at a strobe (R171) -/

theorem Trace.lateFrom_append {t u : Trace} {late : List Labelled} (h : u = { t with triggers := t.triggers ++ late }) :
    u.lateFrom t.triggers.length = { t with triggers := t.triggers ++ late.map (fun x => { x with cycle := x.cycle + 1 }) } := by
  rw [h]
  unfold Trace.lateFrom
  dsimp only
  rw [List.take_left, List.drop_left]

/-- The work outstanding at a strobe leaves the cycle count, and its triggers follow those received, labelled with the next cycle. -/
theorem State.finishCycle_trace (s : State) :
    s.finishCycle.tb.cycle = s.tb.cycle ∧ ∃ late : List Labelled,
      s.finishCycle.trace = { s.trace with triggers := s.trace.triggers ++ late } ∧ ∀ x ∈ late, x.cycle = s.tb.cycle + 1 := by
  unfold State.finishCycle
  dsimp only
  have computed : s.Triggered (if s.tb.deadlineDone then s else s.deadline) := by
    split
    · exact .refl s
    · exact (Triggered.refl s).deadline
  generalize (if s.tb.deadlineDone then s else s.deadline) = t at computed ⊢
  have updated : s.Triggered (if t.tb.updateDone then t else t.trackerUpdate) := by
    split
    · exact computed
    · exact computed.trackerUpdate
  generalize (if t.tb.updateDone then t else t.trackerUpdate) = u at updated ⊢
  obtain ⟨cycle, late, trace, labels⟩ :=
    updated.foldl State.judge (fun _ k h => h.judge k) (u.track.held.map LoadChange.stand)
  refine ⟨cycle, late.map (fun x : Labelled => { x with cycle := x.cycle + 1 }), Trace.lateFrom_append trace, ?_⟩
  · intro y hy
    obtain ⟨x, hx, rfl⟩ := List.mem_map.1 hy
    exact congrArg (· + 1) (labels x hx)

/-! ### The strobe that follows (R2, R123) -/

theorem Timebase.transition_cycle (t : Timebase) (kind : StrobeKind) (period : Int) : (t.transition kind period).1.cycle = t.cycle := by
  unfold Timebase.transition
  dsimp only
  split
  · rfl
  · split_ifs <;> rfl
  · split_ifs <;> rfl

theorem State.snapshotDue_same (s : State) : s.snapshotDue.tb = s.tb ∧ s.snapshotDue.trace = s.trace := by
  unfold State.snapshotDue
  split
  · exact ⟨rfl, rfl⟩
  · split <;> exact ⟨rfl, rfl⟩

namespace State.Triggered

variable {s t : State}

theorem settleGauge (h : s.Triggered t) (k : Nat) : s.Triggered (State.settleGauge k t) := h.of_same rfl rfl

theorem fixStand (h : s.Triggered t) (k : Nat) : s.Triggered (State.fixStand k t) := h.of_same rfl rfl

theorem clearWords (h : s.Triggered t) : s.Triggered t.clearWords := h.of_same rfl rfl

theorem bringIntoForce (h : s.Triggered t) : s.Triggered t.bringIntoForce := by
  have loaded : s.Triggered t.calLoad.1 := by
    unfold State.calLoad State.checkCopy
    split
    · split
      · exact h
      · exact h.of_same rfl rfl
    · exact h
  unfold State.bringIntoForce
  dsimp only
  split
  · exact loaded.of_same rfl rfl
  · exact h.of_same rfl rfl

theorem sampleEstops (h : s.Triggered t) (es : BitVec 4) : s.Triggered (t.sampleEstops es) := by
  unfold State.sampleEstops
  refine foldl _ (fun t i h => ?_) _ ?_
  on_goal 2 => exact h.of_same rfl rfl
  split
  · exact h
  · exact h.of_same rfl rfl

end State.Triggered

/-- A strobe settles the trace of the cycle that ends; the triggers it brings itself are labelled with the cycle it begins. -/
theorem State.strobe_trace (s : State) (kind : StrobeKind) (switched : Bool) (len : Int) (time : Nat) (es : BitVec 4) :
    ∃ more : List Labelled,
      (s.strobe kind switched len time es).trace = { s.finishCycle.settleTrace.trace with
        triggers := s.finishCycle.settleTrace.trace.triggers ++ more }
      ∧ ∀ x ∈ more, x.cycle = s.finishCycle.settleTrace.tb.cycle + 1 := by
  generalize settled : s.finishCycle.settleTrace = u
  obtain ⟨tb, trace⟩ := u.snapshotDue_same
  let t := u.snapshotDue
  let begun : State := { t with tb := (t.tb.transition kind t.conf.period).1.beginCycle len time t.conf.period }
  have cycle : begun.tb.cycle = u.tb.cycle + 1 := by
    rw [← tb]; exact congrArg (· + 1) (Timebase.transition_cycle _ _ _)
  have struck : begun.Triggered (s.strobe kind switched len time es) := by
    unfold State.strobe
    rw [settled]
    refine .clearWords (.forStands _ _ (fun k _ h => h.fixStand k) (.applySources (.mapTrips (.sampleEstops ?_ _) _) _))
    refine .forStands _ _ (fun k _ h => h.settleGauge k) (.mapStands (.mapLink (.bringIntoForce ?_) _) _)
    have switch : begun.Triggered (if switched then begun.reportSync .locked .locked else begun) := by
      split
      · exact (Triggered.refl begun).report _ _
      · exact .refl begun
    split
    · exact switch.report _ _
    · exact switch
  obtain ⟨-, more, taken, labels⟩ := struck
  rw [cycle] at labels
  exact ⟨more, by rw [taken, ← trace], labels⟩

end Sys2Proof.Machine
end

section
/-!
PROOF. The settlement of a cycle by the trace unit (R169 to R171, R174 to R177): what one channel makes of the cycle, said once by its mode;
the eight channels one after another, each of its own record alone; and the samples they leave in the trace memory.
-/

namespace Sys2Proof.Machine

/-! ### Numbered records -/

theorem channel_cases {ch : Nat} (h : ch < 8) :
    ch = 0 ∨ ch = 1 ∨ ch = 2 ∨ ch = 3 ∨ ch = 4 ∨ ch = 5 ∨ ch = 6 ∨ ch = 7 := by omega

section
variable {α : Type}

theorem PerTrace.get_set_same (p : PerTrace α) {ch : Nat} (h : ch < 8) (x : α) : (p.set ch x).get ch = x := by
  obtain rfl | rfl | rfl | rfl | rfl | rfl | rfl | rfl := channel_cases h <;> rfl

theorem PerTrace.get_set_ne (p : PerTrace α) {j ch : Nat} (h : ch < 8) (hj : j ≠ ch) (x : α) : (p.set j x).get ch = p.get ch := by
  obtain rfl | rfl | rfl | rfl | rfl | rfl | rfl | rfl := channel_cases h <;> unfold PerTrace.set <;> split <;>
    first | rfl | exact absurd rfl hj

theorem PerTrace.set_get (p : PerTrace α) (ch : Nat) : p.set ch (p.get ch) = p := by
  unfold PerTrace.set; split <;> rfl

theorem PerTrace.get_map {β : Type} (f : α → β) (p : PerTrace α) (ch : Nat) : (p.map f).get ch = f (p.get ch) := by
  unfold PerTrace.get; split <;> rfl

end

/-! ### What a channel makes of a cycle -/

theorem TraceChan.settles_iff {c : TraceChan} {n : Cycle} :
    c.settles n = true ↔ (c.state = .armed ∨ c.state = .capturing) ∧ ∀ a, c.armCycle = some a → n ≠ a - 1 := by
  unfold TraceChan.settles
  cases c.armCycle <;> simp

theorem TraceChan.triggered_iff {c : TraceChan} {ch : Nat} {n : Cycle} {ts : List Labelled} :
    c.triggered ch n ts = true ↔ c.trigger = .immediate
      ∨ ∃ x ∈ ts, x.cycle = n ∧ (x.channel = some ch ∨ (x.channel = none ∧ x.trigger = c.trigger)) := by
  simp only [TraceChan.triggered, Bool.or_eq_true, Bool.and_eq_true, List.any_eq_true, decide_eq_true_eq, Option.isNone_iff_eq_none]

/-- A place written, the next one follows, or the base after the last of the region (R169). -/
theorem TraceChan.wrote_eq (c : TraceChan) : c.wrote = { c with
    wpos := c.wpos.map (fun p => if p + 1 < c.base + c.length then p + 1 else c.base)
    fill := min c.length (c.fill + 1) } := by
  have next : c.nextPlace = fun p => if p + 1 < c.base + c.length then p + 1 else c.base := by
    funext p
    unfold TraceChan.nextPlace
    rw [← ite_not]
    simp only [not_le]
  unfold TraceChan.wrote; rw [next]

/-- With the end of a cycle a stand that left in it is gone (R170). -/
theorem TraceChan.pass_eq (c : TraceChan) : c.pass = { c with presence := if c.presence = .here then .here else .gone } := by
  have kept := fun x (h : c.presence = x) => congrArg (fun y => ({ c with presence := y } : TraceChan)) h
  unfold TraceChan.pass
  cases presence : c.presence with
  | here => exact kept .here presence
  | leaving => rfl
  | gone => exact kept .gone presence

/-- The channel writes the sample of cycle `n`: the cycle is one of its decimation, and it captures or is a RING (R171, R174 to R176). -/
def TraceChan.Due (c : TraceChan) (n : Cycle) : Prop :=
  (n - c.phase).toNat % 2 ^ c.decimation = 0 ∧ (c.mode = .ring ∨ c.state = .capturing)

/-- What its mode makes of channel `c`, as `w` once the sample is written (R174 to R176). -/
def TraceChan.modeStep (c w : TraceChan) : TraceChan :=
  match c.mode with
  | .single => if c.length ≤ w.fill then { w with state := .done } else w
  | .ring =>
    if c.state = .capturing then
      { w with postTaken := c.postTaken + 1, state := if c.post ≤ c.postTaken + 1 then .done else .capturing }
    else w
  | .block =>
    if c.blocks * c.block ≤ w.fill then { w with state := if c.length < w.fill + c.block then .done else .armed } else w

/-- The channel after a sample written (R169, R174 to R176). -/
def TraceChan.afterSample (c : TraceChan) : TraceChan := c.modeStep c.wrote

theorem TraceChan.afterSample_presence (c : TraceChan) : c.afterSample.presence = c.presence := by
  unfold TraceChan.afterSample TraceChan.modeStep
  split <;> split <;> rfl

/-- The channel takes a trigger of cycle `n` (R177). -/
def TraceChan.Begins (c : TraceChan) (ch : Nat) (n : Cycle) (ts : List Labelled) : Prop :=
  c.state = .armed ∧ c.triggered ch n ts = true

/-- A capture begins with a sample: its first cycle is one of the decimation (R171). -/
theorem TraceChan.due_begin (c : TraceChan) (n : Cycle) : (c.begin n).Due n := by
  refine ⟨?_, .inr rfl⟩
  have first : n - (c.begin n).phase = 0#32 := BitVec.sub_self n
  rw [first]; exact Nat.zero_mod _

/-- The settlement of a channel: a trigger begins its capture, and then the sample is written where it is due. -/
theorem TraceChan.settle_of_begun {c b : TraceChan} {ch : Nat} {n : Cycle} {ts : List Labelled}
    (begun : (if c.state = .armed ∧ c.triggered ch n ts then c.begin n else c) = b) :
    (b.Due n → c.settle ch n ts = (b.afterSample, true)) ∧ (¬b.Due n → c.settle ch n ts = (b, false)) := by
  unfold TraceChan.settle TraceChan.afterSample TraceChan.modeStep TraceChan.Due TraceChan.wrote
  rw [begun]
  dsimp only
  have decimated : b.sampleCycle n = true ↔ (n - b.phase).toNat % 2 ^ b.decimation = 0 := decide_eq_true_iff
  rw [← decimated]
  constructor
  · rintro ⟨sampled, due⟩
    cases mode : b.mode with
    | single =>
      have capturing : b.state = .capturing := due.resolve_left (by rw [mode]; decide)
      rw [if_pos ⟨capturing, sampled⟩]
    | ring =>
      dsimp only
      rw [if_pos sampled]
      by_cases capturing : b.state = .capturing
      · rw [if_pos capturing, if_pos capturing, capturing]
        split <;> rfl
      · rw [if_neg capturing, if_neg capturing]
    | block =>
      have capturing : b.state = .capturing := due.resolve_left (by rw [mode]; decide)
      dsimp only
      rw [if_pos ⟨capturing, sampled⟩]
      split <;> rfl
  · intro skipped
    cases mode : b.mode with
    | single => exact if_neg (fun h => skipped ⟨h.2, .inr h.1⟩)
    | ring => exact if_neg (fun h => skipped ⟨h, .inl mode⟩)
    | block => exact if_neg (fun h => skipped ⟨h.2, .inr h.1⟩)

section
variable {c : TraceChan} {ch : Nat} {n : Cycle} {ts : List Labelled}

theorem TraceChan.settle_of_begins (h : c.Begins ch n ts) : c.settle ch n ts = ((c.begin n).afterSample, true) :=
  (TraceChan.settle_of_begun (if_pos h)).1 (c.due_begin n)

theorem TraceChan.settle_of_due (h : ¬c.Begins ch n ts) (due : c.Due n) : c.settle ch n ts = (c.afterSample, true) :=
  (TraceChan.settle_of_begun (if_neg h)).1 due

theorem TraceChan.settle_of_not_due (h : ¬c.Begins ch n ts) (skipped : ¬c.Due n) : c.settle ch n ts = (c, false) :=
  (TraceChan.settle_of_begun (if_neg h)).2 skipped

/-- The sample is written exactly where a capture begins or the sample is due. -/
theorem TraceChan.settle_writes_iff : (c.settle ch n ts).2 = true ↔ c.Begins ch n ts ∨ c.Due n := by
  by_cases begins : c.Begins ch n ts
  · rw [TraceChan.settle_of_begins begins]; exact iff_of_true rfl (.inl begins)
  · by_cases due : c.Due n
    · rw [TraceChan.settle_of_due begins due]; exact iff_of_true rfl (.inr due)
    · rw [TraceChan.settle_of_not_due begins due]; exact iff_of_false Bool.false_ne_true (not_or.2 ⟨begins, due⟩)

end

/-! ### One channel settled -/

/-- Channel `ch` as its settlement leaves it. -/
def State.chanAfter (s : State) (ch : Nat) : TraceChan :=
  let c := s.trace.chans.get ch
  if c.settles s.tb.cycle then (c.settle ch s.tb.cycle s.trace.triggers).1 else c

section
variable {s : State} {ch : Nat}

theorem State.chanAfter_of_not_settles (h : ¬(s.trace.chans.get ch).settles s.tb.cycle = true) :
    s.chanAfter ch = s.trace.chans.get ch := if_neg h

theorem State.chanAfter_of_begins (h : (s.trace.chans.get ch).settles s.tb.cycle = true)
    (begins : (s.trace.chans.get ch).Begins ch s.tb.cycle s.trace.triggers) :
    s.chanAfter ch = ((s.trace.chans.get ch).begin s.tb.cycle).afterSample :=
  (if_pos h).trans (congrArg Prod.fst (TraceChan.settle_of_begins begins))

theorem State.chanAfter_of_due (h : (s.trace.chans.get ch).settles s.tb.cycle = true)
    (waits : ¬(s.trace.chans.get ch).Begins ch s.tb.cycle s.trace.triggers) (due : (s.trace.chans.get ch).Due s.tb.cycle) :
    s.chanAfter ch = (s.trace.chans.get ch).afterSample :=
  (if_pos h).trans (congrArg Prod.fst (TraceChan.settle_of_due waits due))

theorem State.chanAfter_of_not_due (h : (s.trace.chans.get ch).settles s.tb.cycle = true)
    (waits : ¬(s.trace.chans.get ch).Begins ch s.tb.cycle s.trace.triggers) (skips : ¬(s.trace.chans.get ch).Due s.tb.cycle) :
    s.chanAfter ch = s.trace.chans.get ch :=
  (if_pos h).trans (congrArg Prod.fst (TraceChan.settle_of_not_due waits skips))

end

/-- The place that the settlement of channel `ch` writes, if it writes one. -/
def State.placeWritten (s : State) (ch : Nat) : Option Nat :=
  let c := s.trace.chans.get ch
  if c.settles s.tb.cycle ∧ (c.settle ch s.tb.cycle s.trace.triggers).2 then c.wpos else none

/-- All that the settlement of a channel does: its own record, its sample, and its report when it ends (R171, R179). -/
theorem State.settleChan_eq (s : State) (ch : Nat) :
    s.settleChan ch = { s with
      trace := { s.trace with
        chans := s.trace.chans.set ch (s.chanAfter ch)
        mem := match s.placeWritten ch with
          | some p => Memory.write 0 s.trace.mem p (s.traceSample (s.trace.chans.get ch))
          | none => s.trace.mem }
      link := if (s.trace.chans.get ch).settles s.tb.cycle ∧ (s.chanAfter ch).state = .done then
          s.link.queueEvent s.tb.cycle .traceDone (traceDoneFields ch 1 (s.chanAfter ch))
        else s.link } := by
  unfold State.settleChan State.chanAfter State.placeWritten
  dsimp only
  by_cases settles : (s.trace.chans.get ch).settles s.tb.cycle
  · simp only [settles, if_true, true_and]
    generalize (s.trace.chans.get ch).settle ch s.tb.cycle s.trace.triggers = r
    generalize (s.trace.chans.get ch).wpos = place
    obtain ⟨c, writes⟩ := r
    cases writes with
    | false => simp only [Bool.false_eq_true, if_false]; split <;> rfl
    | true =>
      cases place with
      | none => simp only [if_true]; split <;> rfl
      | some p => simp only [if_true]; split <;> rfl
  · simp only [settles, Bool.false_eq_true, if_false, false_and, PerTrace.set_get]

theorem State.placeWritten_eq_some {s : State} {ch p : Nat} :
    s.placeWritten ch = some p ↔ (s.trace.chans.get ch).settles s.tb.cycle = true ∧ (s.trace.chans.get ch).wpos = some p
      ∧ ((s.trace.chans.get ch).Begins ch s.tb.cycle s.trace.triggers ∨ (s.trace.chans.get ch).Due s.tb.cycle) := by
  unfold State.placeWritten
  dsimp only
  rw [← TraceChan.settle_writes_iff]
  split
  next h => exact ⟨fun place => ⟨h.1, place, h.2⟩, fun h => h.2.1⟩
  next h => exact ⟨nofun, fun ⟨settles, _, writes⟩ => absurd ⟨settles, writes⟩ h⟩

/-! ### The report of an end (R179, R185) -/

theorem State.sent_of_queueEvent {s t : State} {c : Cycle} {kind : EventKind} {fields : List Int}
    (queued : t.link = s.link.queueEvent c kind fields) : t.sent c kind fields := by
  unfold State.sent
  rw [queued, Link.queueEvent_eq]
  dsimp only
  split
  · exact .inl (List.mem_append_right _ List.mem_cons_self)
  next full => exact .inr ⟨Nat.le_of_not_lt full, rfl⟩

/-- What has been sent stays sent when a further report comes. -/
theorem State.sent_queueEvent {s t : State} {c d : Cycle} {kind kind' : EventKind} {fields fields' : List Int}
    (h : s.sent c kind fields) (queued : t.link = s.link.queueEvent d kind' fields') : t.sent c kind fields := by
  unfold State.sent
  rw [queued, Link.queueEvent_eq]
  dsimp only
  rcases h with listed | ⟨full, lost⟩
  · left; split
    · exact List.mem_append_left _ listed
    · exact listed
  · right
    rw [if_neg (Nat.not_lt.2 full), if_neg (Nat.not_lt.2 full)]
    exact ⟨full, rfl⟩

theorem State.sent_settleChan {s : State} {c : Cycle} {kind : EventKind} {fields : List Int} (h : s.sent c kind fields) (ch : Nat) :
    (s.settleChan ch).sent c kind fields := by
  rw [s.settleChan_eq ch]
  by_cases ended : (s.trace.chans.get ch).settles s.tb.cycle = true ∧ (s.chanAfter ch).state = .done
  · exact State.sent_queueEvent h (if_pos ended)
  · unfold State.sent; rw [if_neg ended]; exact h

theorem State.settleChan_sent {s : State} {ch : Nat} (settles : (s.trace.chans.get ch).settles s.tb.cycle = true)
    (ended : (s.chanAfter ch).state = .done) :
    (s.settleChan ch).sent s.tb.cycle .traceDone (traceDoneFields ch 1 (s.chanAfter ch)) := by
  rw [s.settleChan_eq ch]
  exact State.sent_of_queueEvent (s := s) (if_pos ⟨settles, ended⟩)

/-! ### The eight channels in turn -/

/-- What the settlement of channel `ch` reads: its record, the cycle, the triggers and the channel's sample. -/
def State.traceInputs (s : State) (ch : Nat) : TraceChan × Cycle × List Labelled × Int :=
  (s.trace.chans.get ch, s.tb.cycle, s.trace.triggers, s.traceSample (s.trace.chans.get ch))

section
variable {s t : State} {ch : Nat}

theorem State.traceInputs_iff : t.traceInputs ch = s.traceInputs ch ↔
    t.trace.chans.get ch = s.trace.chans.get ch ∧ t.tb.cycle = s.tb.cycle ∧ t.trace.triggers = s.trace.triggers
      ∧ t.traceSample (t.trace.chans.get ch) = s.traceSample (s.trace.chans.get ch) := by
  simp only [State.traceInputs, Prod.mk.injEq]

theorem State.chanAfter_congr (same : t.traceInputs ch = s.traceInputs ch) : t.chanAfter ch = s.chanAfter ch := by
  obtain ⟨chan, cycle, triggers, -⟩ := State.traceInputs_iff.1 same
  unfold State.chanAfter; rw [chan, cycle, triggers]

theorem State.placeWritten_congr (same : t.traceInputs ch = s.traceInputs ch) : t.placeWritten ch = s.placeWritten ch := by
  obtain ⟨chan, cycle, triggers, -⟩ := State.traceInputs_iff.1 same
  unfold State.placeWritten; rw [chan, cycle, triggers]

/-- The settlement of another channel changes nothing that a channel's own reads. -/
theorem State.traceInputs_settleChan (h : ch < 8) {j : Nat} (hj : j ≠ ch) (s : State) :
    (s.settleChan j).traceInputs ch = s.traceInputs ch := by
  rw [s.settleChan_eq j]
  have chan := s.trace.chans.get_set_ne h hj (s.chanAfter j)
  refine State.traceInputs_iff.2 ⟨chan, rfl, rfl, ?_⟩
  dsimp only
  rw [chan]; rfl

theorem State.traceInputs_settleChans (h : ch < 8) {l : List Nat} (hl : ch ∉ l) (s : State) :
    (l.foldl State.settleChan s).traceInputs ch = s.traceInputs ch := by
  induction l generalizing s with
  | nil => rfl
  | cons j l ih =>
    obtain ⟨hj, hl⟩ := List.ne_and_not_mem_of_not_mem_cons hl
    rw [List.foldl_cons, ih hl, State.traceInputs_settleChan h (Ne.symm hj)]

/-- The list of the eight channels, cut at one of them. -/
theorem channels_split (h : ch < 8) :
    ∃ pre post : List Nat, [0, 1, 2, 3, 4, 5, 6, 7] = pre ++ ch :: post ∧ ch ∉ pre ∧ ch ∉ post := by
  obtain ⟨pre, post, channels⟩ := List.append_of_mem (List.mem_range.2 h)
  have once : (pre ++ ch :: post).Nodup := channels ▸ List.nodup_range
  obtain ⟨elsewhere, -⟩ := List.nodup_cons.1 (List.nodup_middle.1 once)
  obtain ⟨notPre, notPost⟩ := not_or.1 (List.mem_append.not.1 elsewhere)
  exact ⟨pre, post, channels, notPre, notPost⟩

/-- Each channel's record is settled once, as it stands at the strobe (R171). -/
theorem State.chan_settleTrace (h : ch < 8) (s : State) : s.settleTrace.trace.chans.get ch = (s.chanAfter ch).pass := by
  obtain ⟨pre, post, channels, notPre, notPost⟩ := channels_split h
  have before := State.traceInputs_settleChans h notPre s
  have after := State.traceInputs_settleChans h notPost ((pre.foldl State.settleChan s).settleChan ch)
  obtain ⟨chan, -⟩ := State.traceInputs_iff.1 after
  unfold State.settleTrace
  rw [channels, List.foldl_append, List.foldl_cons]
  dsimp only [State.mapTrace_trace]
  rw [PerTrace.get_map, chan, State.settleChan_eq, ← State.chanAfter_congr before]
  exact congrArg TraceChan.pass (PerTrace.get_set_same _ h _)

/-- A channel that its settlement ends has sent its TRACE DONE (R179). -/
theorem State.settleTrace_sent (h : ch < 8) {s : State} (settles : (s.trace.chans.get ch).settles s.tb.cycle = true)
    (ended : (s.chanAfter ch).state = .done) :
    s.settleTrace.sent s.tb.cycle .traceDone (traceDoneFields ch 1 (s.chanAfter ch)) := by
  obtain ⟨pre, post, channels, notPre, -⟩ := channels_split h
  have before := State.traceInputs_settleChans h notPre s
  obtain ⟨chan, cycle, -⟩ := State.traceInputs_iff.1 before
  rw [← State.chanAfter_congr before] at ended ⊢
  rw [← chan, ← cycle] at settles
  rw [← cycle]
  unfold State.settleTrace
  rw [channels, List.foldl_append, List.foldl_cons]
  exact foldl_induct (P := fun t : State => t.sent _ _ _) _ (fun _ j h => State.sent_settleChan h j) post _
    (State.settleChan_sent settles ended)

end

/-- The settlement leaves the cycle count, and takes the triggers of its cycle away. -/
theorem State.settleTrace_triggers (s : State) : s.settleTrace.tb = s.tb
    ∧ s.settleTrace.trace.triggers = s.trace.triggers.filter (fun x => decide (x.cycle ≠ s.tb.cycle)) := by
  obtain ⟨tb, triggers⟩ : ([0, 1, 2, 3, 4, 5, 6, 7].foldl State.settleChan s).tb = s.tb
      ∧ ([0, 1, 2, 3, 4, 5, 6, 7].foldl State.settleChan s).trace.triggers = s.trace.triggers :=
    foldl_induct (P := fun t => t.tb = s.tb ∧ t.trace.triggers = s.trace.triggers) State.settleChan
      (fun t ch same => by rw [t.settleChan_eq ch]; exact same) _ s ⟨rfl, rfl⟩
  unfold State.settleTrace
  dsimp only [State.mapTrace_tb, State.mapTrace_trace]
  exact ⟨tb, by rw [tb, triggers]⟩

/-! ### The samples in the trace memory (R169, R174) -/

theorem State.settleTrace_mem (s : State) :
    s.settleTrace.trace.mem = ([0, 1, 2, 3, 4, 5, 6, 7].foldl State.settleChan s).trace.mem := by
  simp only [State.settleTrace, State.mapTrace_trace]

section
variable {s : State} {ch p : Nat}

theorem State.read_settleChan_of_ne (h : s.placeWritten ch ≠ some p) :
    Memory.read 0 (s.settleChan ch).trace.mem p = Memory.read 0 s.trace.mem p := by
  rw [s.settleChan_eq ch]
  cases place : s.placeWritten ch with
  | none => rfl
  | some q => exact Memory.read_write_ne _ (fun e => h (by rw [place, e])) _

theorem State.read_settleChan_of_eq (canonical : Memory.wf 0 s.trace.mem = true) (h : s.placeWritten ch = some p) :
    Memory.read 0 (s.settleChan ch).trace.mem p = s.traceSample (s.trace.chans.get ch) := by
  rw [s.settleChan_eq ch, h]
  exact Memory.read_write_same canonical _ _

theorem State.wf_settleChan (canonical : Memory.wf 0 s.trace.mem = true) (ch : Nat) :
    Memory.wf 0 (s.settleChan ch).trace.mem = true := by
  rw [s.settleChan_eq ch]
  cases s.placeWritten ch with
  | none => exact canonical
  | some q => exact Memory.wf_write canonical _ _

theorem channels_below : ∀ j ∈ [0, 1, 2, 3, 4, 5, 6, 7], j < 8 := by decide

/-- A place that none of the channels settled writes keeps its sample. -/
theorem State.read_settleChans {l : List Nat} (channels : ∀ j ∈ l, j < 8) (once : l.Nodup)
    (unwritten : ∀ j ∈ l, s.placeWritten j ≠ some p) :
    Memory.read 0 (l.foldl State.settleChan s).trace.mem p = Memory.read 0 s.trace.mem p := by
  induction l generalizing s with
  | nil => rfl
  | cons j l ih =>
    obtain ⟨hj, nodup⟩ := List.nodup_cons.1 once
    obtain ⟨free, rest⟩ := List.forall_mem_cons.1 unwritten
    obtain ⟨-, below⟩ := List.forall_mem_cons.1 channels
    rw [List.foldl_cons, ih below nodup, State.read_settleChan_of_ne free]
    intro k hk
    have other : j ≠ k := fun e => hj (e ▸ hk)
    rw [State.placeWritten_congr (State.traceInputs_settleChan (below k hk) other s)]
    exact rest k hk

theorem State.read_settleTrace_of_unwritten (unwritten : ∀ j, j < 8 → s.placeWritten j ≠ some p) :
    Memory.read 0 s.settleTrace.trace.mem p = Memory.read 0 s.trace.mem p := by
  rw [State.settleTrace_mem]
  exact State.read_settleChans channels_below (by decide) (fun j hj => unwritten j (channels_below j hj))

/-- A place that one channel alone writes holds that channel's sample of the cycle. -/
theorem State.read_settleTrace_of_written (canonical : Memory.wf 0 s.trace.mem = true) (h : ch < 8)
    (written : s.placeWritten ch = some p) (alone : ∀ j, j < 8 → s.placeWritten j = some p → j = ch) :
    Memory.read 0 s.settleTrace.trace.mem p = s.traceSample (s.trace.chans.get ch) := by
  obtain ⟨pre, post, channels, notPre, notPost⟩ := channels_split h
  have below : ∀ j ∈ pre ++ ch :: post, j < 8 := channels ▸ channels_below
  have once : (pre ++ ch :: post).Nodup := channels ▸ List.nodup_range (n := 8)
  obtain ⟨-, later, apart⟩ := List.nodup_append.1 once
  set t := pre.foldl State.settleChan s with settled
  have before := State.traceInputs_settleChans h notPre s
  obtain ⟨-, -, -, sample⟩ := State.traceInputs_iff.1 before
  have canonical' : Memory.wf 0 t.trace.mem = true :=
    foldl_induct (P := fun u : State => Memory.wf 0 u.trace.mem = true) _ (fun _ j h => State.wf_settleChan h j) pre s canonical
  have unwritten : ∀ j ∈ post, (t.settleChan ch).placeWritten j ≠ some p := by
    intro j hj place
    have lt : j < 8 := below j (by simp [hj])
    have other : ch ≠ j := fun e => notPost (e ▸ hj)
    have notBefore : j ∉ pre := fun hp => apart j hp j (List.mem_cons_of_mem _ hj) rfl
    rw [State.placeWritten_congr (State.traceInputs_settleChan lt other t),
      State.placeWritten_congr (State.traceInputs_settleChans lt notBefore s)] at place
    exact other (alone j lt place).symm
  have kept := State.read_settleChans (fun j hj => below j (by simp [hj])) (List.nodup_cons.1 later).2 unwritten
  rw [State.read_settleChan_of_eq canonical' ((State.placeWritten_congr before).trans written), sample] at kept
  rw [State.settleTrace_mem, channels, List.foldl_append, List.foldl_cons]
  exact kept

end

/-! ### The sample of a cycle, and the order of the samples (R170, R180) -/

/-- The quantities of stand `k` that a channel can sample. -/
def State.standQuantities (s : State) (k : Nat) : List (TraceQuantity × Int) :=
  let st := s.stand k
  [(.gap, st.chans.gap.value), (.force, st.chans.force.value), (.speed, st.chans.speed.value),
    (.hEst, optField st.gcu.q.hEst), (.eRaw, optField st.gcu.q.eRaw), (.integral, optField st.gcu.q.i),
    (.correction, optField st.gcu.q.c), (.clampStatus, st.gcu.clamp.code), (.sRef, refField st.sc.gapRef),
    (.vRef, refField st.scu.speedRef), (.trim, optField st.scu.trim)]

theorem State.traceSample_of_stand {s : State} {c : TraceChan} {k : Nat} {p : TraceQuantity × Int}
    (listed : p ∈ s.standQuantities k) (quantity : c.quantity = some p.1) (index : c.index = some k) :
    s.traceSample c = if 1 ≤ k ∧ k ≤ s.force.n ∧ c.presence ≠ .gone then p.2 else absentMarker := by
  simp only [State.standQuantities, List.mem_cons, List.not_mem_nil, or_false] at listed
  unfold State.traceSample
  rw [quantity, index]
  rcases listed with rfl | rfl | rfl | rfl | rfl | rfl | rfl | rfl | rfl | rfl | rfl <;> rfl

section
variable {c : TraceChan} {i : Nat}

theorem Trace.sampleAt_of_base (t : Trace) (held : i < c.fill) (fits : c.fill ≤ c.length)
    (fromBase : c.mode ≠ .ring ∨ c.fill < c.length) : t.sampleAt c i = Memory.read 0 t.mem (c.base + i) := by
  have oldest : c.oldest = c.base := if_neg (fun full => fromBase.elim (fun h => h full.1) (fun h => absurd full.2 (Nat.ne_of_lt h)))
  unfold Trace.sampleAt
  rw [oldest, Nat.sub_self, Nat.zero_add, Nat.mod_eq_of_lt (by omega)]

/-- In a full RING the oldest sample stands at the write position. -/
theorem Trace.sampleAt_of_full (t : Trace) (held : i < c.length) {p : Nat} (full : c.mode = .ring ∧ c.fill = c.length)
    (place : c.wpos = some p) (low : c.base ≤ p) (high : p < c.base + c.length) :
    t.sampleAt c i = Memory.read 0 t.mem (if p + i < c.base + c.length then p + i else p + i - c.length) := by
  have oldest : c.oldest = p := (if_pos full).trans (by rw [place]; rfl)
  unfold Trace.sampleAt
  rw [oldest]
  split
  next inside => rw [Nat.mod_eq_of_lt (by omega)]; congr 1; omega
  next round => rw [Nat.mod_eq_sub_mod (by omega), Nat.mod_eq_of_lt (by omega)]; congr 1; omega

end

/-! ### The strobe and its settlement -/

theorem State.exec_internalReferenceStrobe_trace (es : BitVec 4) {s : State} (unlocked : s.tb.state ≠ .locked) :
    ∃ t more, exec (.internalReferenceStrobe es) s = .next t
      ∧ t.trace.mem = s.finishCycle.settleTrace.trace.mem ∧ t.trace.chans = s.finishCycle.settleTrace.trace.chans
      ∧ t.trace.triggers = s.finishCycle.trace.triggers.filter (fun x => decide (x.cycle ≠ s.tb.cycle)) ++ more
      ∧ ∀ x ∈ more, x.cycle = s.tb.cycle + 1 := by
  obtain ⟨more, trace, labels⟩ := s.strobe_trace .reference false s.tb.period (s.tb.lastStrobe + s.tb.period.toNat) es
  obtain ⟨cycle, -⟩ := s.finishCycle_trace
  obtain ⟨tb, triggers⟩ := s.finishCycle.settleTrace_triggers
  rw [tb, cycle] at labels
  rw [cycle] at triggers
  refine ⟨_, more, congrArg Host.Outcome.next (if_neg unlocked), ?_, ?_, ?_, labels⟩
  · rw [trace]
  · rw [trace]
  · rw [trace, triggers]

/-- Settles O54: each channel's record and sample by its settlement at the strobe, the triggers by the work outstanding there. -/
theorem traceSettlement : Obligations.TraceSettlement := by
  refine ⟨fun s => ?_, fun es s unlocked => State.exec_internalReferenceStrobe_trace es unlocked, fun s => ?_, fun s c k => ?_,
    fun t c i held fits => ⟨t.sampleAt_of_base held fits, fun p ring full place low high => ?_⟩⟩
  · obtain ⟨-, late⟩ := s.finishCycle_trace
    exact late
  · intro n t chan settling begins due wrote after writes
    have settles_iff : ∀ ch, settling ch ↔ (chan ch).settles n = true := fun ch => TraceChan.settles_iff.symm
    have begins_iff : ∀ ch, begins ch ↔ (chan ch).Begins ch n s.trace.triggers :=
      fun ch => and_congr_right fun _ => TraceChan.triggered_iff.symm
    have after_eq : ∀ x, after x = x.afterSample := fun x => congrArg x.modeStep x.wrote_eq.symm
    have writes_iff : ∀ ch p, writes ch p ↔ ch < 8 ∧ s.placeWritten ch = some p := fun ch p => by
      rw [State.placeWritten_eq_some, ← begins_iff ch, ← settles_iff ch]
      exact Iff.rfl
    refine ⟨fun ch h => ?_, fun ⟨_, _, canonical⟩ => ⟨fun p free => ?_, fun ch p written alone => ?_⟩⟩
    · intro c d begun passed
      have passes : d = (s.chanAfter ch).pass := State.chan_settleTrace h s
      have passed_of : ∀ x, s.chanAfter ch = x → x.presence = c.presence → d = passed x := fun x settled presence => by
        rw [passes, settled, TraceChan.pass_eq, presence]
      refine ⟨fun out => ?_, fun inside starts => ?_, fun inside waits => ⟨fun writing => ?_, fun skips => ?_⟩,
        fun inside ended => ?_⟩
      · exact passed_of c (State.chanAfter_of_not_settles ((settles_iff ch).not.1 out)) rfl
      · have settled := State.chanAfter_of_begins ((settles_iff ch).1 inside) ((begins_iff ch).1 starts)
        rw [after_eq]
        exact passed_of _ settled (TraceChan.afterSample_presence _)
      · have settled := State.chanAfter_of_due ((settles_iff ch).1 inside) ((begins_iff ch).not.1 waits) writing
        rw [after_eq]
        exact passed_of _ settled (TraceChan.afterSample_presence _)
      · exact passed_of c (State.chanAfter_of_not_due ((settles_iff ch).1 inside) ((begins_iff ch).not.1 waits) skips) rfl
      · rw [passes, TraceChan.pass_eq] at ended ⊢
        exact State.settleTrace_sent h ((settles_iff ch).1 inside) ended
    · exact State.read_settleTrace_of_unwritten fun j hj place => free j ((writes_iff j p).2 ⟨hj, place⟩)
    · obtain ⟨h, place⟩ := (writes_iff ch p).1 written
      exact State.read_settleTrace_of_written canonical h place fun j hj other => alone j ((writes_iff j p).2 ⟨hj, other⟩)
  · refine ⟨fun quantity => ?_, fun quantity index => ?_, fun p listed quantity index => ?_⟩
    · unfold State.traceSample; rw [quantity]
    · unfold State.traceSample; rw [quantity, index]; rfl
    · rw [State.traceSample_of_stand listed quantity index]
      refine ⟨fun low high present => if_pos ⟨low, high, present⟩, fun absent => if_neg fun ⟨low, high, present⟩ => ?_⟩
      rcases absent with noStand | beyond | gone
      · omega
      · omega
      · exact present gone
  · exact t.sampleAt_of_full (by omega) ⟨ring, full⟩ place low high

end Sys2Proof.Machine
end
